-- ==== Sys2Proof/Word.lean ====
section
/-! DEFINITION. The byte, the unit of frames, of the stored regions and of the pack bus. -/
namespace Sys2Proof

/-- One byte of a frame, of a stored region or of a pack bus transaction. -/
abbrev Byte := BitVec 8

end Sys2Proof
end

