-- ==== Sys2Proof/Syntax.lean ====
section
/-! DEFINITION. The commands: one constructor of Instr per row of spec/opcode_table.json, with the operands the row's
rule gives. A host request carries its TAG and its payload bytes (R181, R185). -/
namespace Sys2Proof

/-- The two pack slots. -/
inductive Slot where
  | int | rear
  deriving DecidableEq, Repr

/-- The five rails in sequence order (R3). -/
inductive Rail where
  | mem | io | core | periph | disp
  deriving DecidableEq, Repr

/-- The nine dynamic items in the order of the poll schedule list (R89). -/
inductive DynItem where
  | voltage | current | status | temperature | requestedCurrent | requestedVoltage | rsoc | remainingCapacity
  | fullCapacity
  deriving DecidableEq, Repr

/-- The seven identity items in the order they are read (R86). -/
inductive IdItem where
  | designCapacity | designVoltage | cellCount | chargeVoltageLimit | maxDischargeCurrent | serial | cycleCount
  deriving DecidableEq, Repr

/-- The two hall sensors (section 2.1). -/
inductive HallSensor where
  | lid | fold
  deriving DecidableEq, Repr

/-- The two escalation windows (R175). -/
inductive EscalationWindow where
  | criticalEnergy | thermalTrip
  deriving DecidableEq, Repr

/-- The phases of a pack bus transaction (R75); `data n` is DATA n+1. -/
inductive BusPhase where
  | address | command | data (n : Fin 9) | check
  deriving DecidableEq, Repr

/-- How an attempt ended on the wires (R77). `received` gives the bytes that the part clocked from DATA 1 on, the check
byte last; the part judges them itself (R76). -/
inductive AttemptResult where
  | received (bytes : List Byte)
  | nackAddress
  | nackData
  | timeout (phase : BusPhase)
  | arbLost
  deriving DecidableEq, Repr

/-- The commands of the block. -/
inductive Instr where
  /-- R194. `markerCut` says whether the loss of power cut a marker write short (R24). -/
  | coldReset (markerCut : Bool)
  | emptyWrite
  | addressNak
  /-- R181: the bytes of the write, address byte left out. -/
  | frameError (bytes : List Byte)
  | getIdentity (tag : Byte)
  | resetLink (tag confirmation : Byte)
  | fetchNotice (tag : Byte)
  | readEventTable (tag selector : Byte)
  | setEventControl (tag kind level mask : Byte)
  | setAttentionFloor (tag floor : Byte)
  | getPowerStatus (tag : Byte)
  | requestPowerState (tag target : Byte)
  | setWakeSources (tag sources : Byte)
  | setWakeTimer (tag : Byte) (seconds : BitVec 32)
  | getPosture (tag : Byte)
  | readKeys (tag count : Byte)
  | setKeyboardControl (tag keyboard route caps num mute level : Byte)
  | setKeymapEntry (tag position baseCode fnCode attributes : Byte)
  | getPackRecord (tag slot fresh : Byte)
  | freshReadAnswer
  | getPackFault (tag slot : Byte)
  | getPowerPath (tag : Byte)
  | setChargeLimits (tag stop start : Byte)
  /-- R116: the operation byte is 0 (START), or a byte outside the five operations. -/
  | calibrationStart (tag operation slot : Byte)
  | calibrationSuspend (tag slot : Byte)
  | calibrationResume (tag slot : Byte)
  | calibrationAbort (tag slot : Byte)
  | calibrationStatusRead (tag slot : Byte)
  | getBudget (tag : Byte)
  | setBudgetMode (tag mode boost : Byte)
  | getThermal (tag : Byte)
  | setFanMode (tag mode dutyA dutyB : Byte)
  | readConfig (tag region : Byte) (offset : BitVec 16) (length : Byte)
  | writePolicy (tag : Byte) (offset : BitVec 16) (data : List Byte)
  | policyWriteComplete
  | freezePolicy (tag confirmation : Byte)
  | freezeComplete
  | powerButtonPress
  | shortPress
  | longPress
  | powerGoodRise (rail : Rail)
  | powerGoodFall (rail : Rail)
  | upTimeoutExpiry
  | downWaitExpiry
  | settleExpiry
  | rebootOffTimeExpiry
  | wakeTimerExpiry
  | restoreDecision
  | refusalDisplayEnd
  | escalationExpiry (window : EscalationWindow)
  | adapterAttach
  /-- R99: the code of the ID resistor. -/
  | adapterClassRead (code : BitVec 12)
  | adapterRemoval
  /-- R98: Vin in mV and Iin in mA, over their stated ranges. -/
  | adapterSample (vin : BitVec 16) (iin : BitVec 15)
  | hallDebouncedChange (sensor : HallSensor) (active : Bool)
  | angleSample (raw : BitVec 12)
  | dwellExpiry
  | conflictTimerExpiry
  | returnTimerExpiry
  /-- R47: bit p is the raw state of position p, 1 pressed. -/
  | matrixScan (raw : BitVec 128)
  | quietTimeExpiry
  /-- R49: the raw state found by the scan that follows at once. -/
  | senseChange (raw : BitVec 128)
  | backlightIdleExpiry
  | packInsertion (slot : Slot)
  | packPresenceFall (slot : Slot)
  | pollItemDue (slot : Slot) (item : DynItem)
  | identifyRetryExpiry (slot : Slot)
  /-- R77: `stuck` says that a line was found held low for more than 25 ms. -/
  | packAttemptStart (stuck : Bool)
  | packAttemptEnd (result : AttemptResult)
  /-- R81, R82: the bytes after the address byte 0x10 up to the stop. -/
  | alarmMessage (bytes : List Byte)
  /-- R82: the bytes after the address byte that had arrived. -/
  | alarmClockTimeout (bytes : List Byte)
  | itemStale (slot : Slot) (item : DynItem)
  | switchOverExpiry
  | sessionTimerExpiry
  | prechargeTimeout
  | budgetRetryExpiry
  | dischargeTimeout
  | restExpiry
  | energyFirstJudgement
  | budgetEvaluation
  /-- R144: the codes of SOC_ZONE, CHARGER_ZONE, SKIN_DECK and SKIN_BASE. -/
  | conversionRound (soc charger deck base : BitVec 12)
  | startUpHoldEnd
  /-- R159: the pulses counted in the window; 2,184 pulses are the most whose rpm lies in R151's range. -/
  | tachWindowEnd (pulsesA pulsesB : Fin 2185)
  | powerButtonRelease
  deriving DecidableEq, Repr

end Sys2Proof
end

