-- ==== Sys2Proof/Decode.lean ====
section
/-! DEFINITION. Reading commands from bits. No row of the opcode table gives bits, so the table decoder refuses every
word; request frames are read by R181's tests and R185's table of request codes. -/
namespace Sys2Proof

/-- No row of spec/opcode_table.json gives bits ("fields" is empty in each), so no word spells a command. -/
def decodeTableWord (_nbits _w : Nat) : Option Instr := none

/-- A byte of a payload; a payload read here has the length R185 gives, so the default is never met. -/
def byteAt (p : List Byte) (n : Nat) : Byte := p.getD n 0

/-- How many payload bytes R185 gives a request code: the least and the most, or none for no request code. -/
def payloadRange (kind : Nat) : Option (Nat × Nat) :=
  match kind with
  | 0x01 => some (0, 0) | 0x02 => some (1, 1) | 0x03 => some (0, 0) | 0x04 => some (1, 1)
  | 0x05 => some (3, 3) | 0x06 => some (1, 1) | 0x10 => some (0, 0) | 0x11 => some (1, 1)
  | 0x12 => some (1, 1) | 0x13 => some (4, 4) | 0x20 => some (0, 0) | 0x30 => some (1, 1)
  | 0x31 => some (6, 6) | 0x32 => some (4, 4) | 0x40 => some (2, 2) | 0x41 => some (1, 1)
  | 0x48 => some (0, 0) | 0x49 => some (2, 2) | 0x4A => some (2, 2) | 0x50 => some (0, 0)
  | 0x51 => some (2, 2) | 0x58 => some (0, 0) | 0x59 => some (3, 3) | 0x60 => some (4, 4)
  | 0x61 => some (3, 50) | 0x62 => some (1, 1) | _ => none

/-- The two refusals of R181. -/
inductive FrameRefusal where
  | badLen | badKind
  deriving DecidableEq, Repr

/-- R181's three tests in order: none when the frame passes them. -/
def frameRefusal (bytes : List Byte) : Option FrameRefusal :=
  if bytes.length < 3 ∨ 56 < (byteAt bytes 2).toNat ∨ bytes.length ≠ 3 + (byteAt bytes 2).toNat then some .badLen
  else match payloadRange (byteAt bytes 0).toNat with
    | none => some .badKind
    | some (lo, hi) =>
      if (byteAt bytes 2).toNat < lo ∨ hi < (byteAt bytes 2).toNat then some .badLen else none

/-- The command of a request code with its TAG and payload (R185, Formats). -/
def requestOf (kind : Nat) (t : Byte) (p : List Byte) : Option Instr :=
  match kind with
  | 0x01 => some (.getIdentity t)
  | 0x02 => some (.resetLink t (byteAt p 0))
  | 0x03 => some (.fetchNotice t)
  | 0x04 => some (.readEventTable t (byteAt p 0))
  | 0x05 => some (.setEventControl t (byteAt p 0) (byteAt p 1) (byteAt p 2))
  | 0x06 => some (.setAttentionFloor t (byteAt p 0))
  | 0x10 => some (.getPowerStatus t)
  | 0x11 => some (.requestPowerState t (byteAt p 0))
  | 0x12 => some (.setWakeSources t (byteAt p 0))
  | 0x13 => some (.setWakeTimer t (byteAt p 3 ++ byteAt p 2 ++ byteAt p 1 ++ byteAt p 0))
  | 0x20 => some (.getPosture t)
  | 0x30 => some (.readKeys t (byteAt p 0))
  | 0x31 => some (.setKeyboardControl t (byteAt p 0) (byteAt p 1) (byteAt p 2) (byteAt p 3) (byteAt p 4) (byteAt p 5))
  | 0x32 => some (.setKeymapEntry t (byteAt p 0) (byteAt p 1) (byteAt p 2) (byteAt p 3))
  | 0x40 => some (.getPackRecord t (byteAt p 0) (byteAt p 1))
  | 0x41 => some (.getPackFault t (byteAt p 0))
  | 0x48 => some (.getPowerPath t)
  | 0x49 => some (.setChargeLimits t (byteAt p 0) (byteAt p 1))
  | 0x4A =>
    match (byteAt p 0).toNat with
    | 1 => some (.calibrationSuspend t (byteAt p 1))
    | 2 => some (.calibrationResume t (byteAt p 1))
    | 3 => some (.calibrationAbort t (byteAt p 1))
    | 4 => some (.calibrationStatusRead t (byteAt p 1))
    | _ => some (.calibrationStart t (byteAt p 0) (byteAt p 1))
  | 0x50 => some (.getBudget t)
  | 0x51 => some (.setBudgetMode t (byteAt p 0) (byteAt p 1))
  | 0x58 => some (.getThermal t)
  | 0x59 => some (.setFanMode t (byteAt p 0) (byteAt p 1) (byteAt p 2))
  | 0x60 => some (.readConfig t (byteAt p 0) (byteAt p 2 ++ byteAt p 1) (byteAt p 3))
  | 0x61 => some (.writePolicy t (byteAt p 1 ++ byteAt p 0) (p.drop 2))
  | 0x62 => some (.freezePolicy t (byteAt p 0))
  | _ => none

/-- The command that a write of these bytes to 0x2C stands for while no request is in processing: R180 for a write
with no data byte, R181 for a frame that its tests refuse, R185 for the rest. -/
def commandOfWrite (bytes : List Byte) : Instr :=
  match bytes with
  | [] => .emptyWrite
  | kind :: rest =>
    match frameRefusal bytes with
    | some _ => .frameError bytes
    | none => (requestOf kind.toNat (byteAt rest 0) (rest.drop 2)).getD (.frameError bytes)

/-- The request code and the payload of a host request (R185), none for a command that no frame carries. -/
def requestParts : Instr → Option (Nat × Byte × List Byte)
  | .getIdentity t => some (0x01, t, [])
  | .resetLink t c => some (0x02, t, [c])
  | .fetchNotice t => some (0x03, t, [])
  | .readEventTable t k => some (0x04, t, [k])
  | .setEventControl t k l m => some (0x05, t, [k, l, m])
  | .setAttentionFloor t f => some (0x06, t, [f])
  | .getPowerStatus t => some (0x10, t, [])
  | .requestPowerState t x => some (0x11, t, [x])
  | .setWakeSources t w => some (0x12, t, [w])
  | .setWakeTimer t n =>
    some (0x13, t, [n.extractLsb' 0 8, n.extractLsb' 8 8, n.extractLsb' 16 8, n.extractLsb' 24 8])
  | .getPosture t => some (0x20, t, [])
  | .readKeys t n => some (0x30, t, [n])
  | .setKeyboardControl t k r c n m l => some (0x31, t, [k, r, c, n, m, l])
  | .setKeymapEntry t p b f a => some (0x32, t, [p, b, f, a])
  | .getPackRecord t k f => some (0x40, t, [k, f])
  | .getPackFault t k => some (0x41, t, [k])
  | .getPowerPath t => some (0x48, t, [])
  | .setChargeLimits t a b => some (0x49, t, [a, b])
  | .calibrationStart t o k => some (0x4A, t, [o, k])
  | .calibrationSuspend t k => some (0x4A, t, [1, k])
  | .calibrationResume t k => some (0x4A, t, [2, k])
  | .calibrationAbort t k => some (0x4A, t, [3, k])
  | .calibrationStatusRead t k => some (0x4A, t, [4, k])
  | .getBudget t => some (0x50, t, [])
  | .setBudgetMode t m b => some (0x51, t, [m, b])
  | .getThermal t => some (0x58, t, [])
  | .setFanMode t m a b => some (0x59, t, [m, a, b])
  | .readConfig t r o n => some (0x60, t, [r, o.extractLsb' 0 8, o.extractLsb' 8 8, n])
  | .writePolicy t o d => some (0x61, t, [o.extractLsb' 0 8, o.extractLsb' 8 8] ++ d)
  | .freezePolicy t c => some (0x62, t, [c])
  | .coldReset _ | .emptyWrite | .addressNak | .frameError _ | .freshReadAnswer | .policyWriteComplete
  | .freezeComplete | .powerButtonPress | .shortPress | .longPress | .powerGoodRise _ | .powerGoodFall _
  | .upTimeoutExpiry | .downWaitExpiry | .settleExpiry | .rebootOffTimeExpiry | .wakeTimerExpiry | .restoreDecision
  | .refusalDisplayEnd | .escalationExpiry _ | .adapterAttach | .adapterClassRead _ | .adapterRemoval
  | .adapterSample _ _ | .hallDebouncedChange _ _ | .angleSample _ | .dwellExpiry | .conflictTimerExpiry
  | .returnTimerExpiry | .matrixScan _ | .quietTimeExpiry | .senseChange _ | .backlightIdleExpiry | .packInsertion _
  | .packPresenceFall _ | .pollItemDue _ _ | .identifyRetryExpiry _ | .packAttemptStart _ | .packAttemptEnd _
  | .alarmMessage _ | .alarmClockTimeout _ | .itemStale _ _ | .switchOverExpiry | .sessionTimerExpiry
  | .prechargeTimeout | .budgetRetryExpiry | .dischargeTimeout | .restExpiry | .energyFirstJudgement
  | .budgetEvaluation | .conversionRound _ _ _ _ | .startUpHoldEnd | .tachWindowEnd _ _ | .powerButtonRelease => none

/-- The bytes of the write to 0x2C that carries a host request: KIND, TAG, LEN, payload (R181, R185). -/
def frameOf (i : Instr) : Option (List Byte) :=
  (requestParts i).map fun r => [BitVec.ofNat 8 r.1, r.2.1, BitVec.ofNat 8 r.2.2.length] ++ r.2.2

end Sys2Proof
end

