-- ==== Sys2Proof/Config.lean ====
section
/-! DEFINITION. Fixed numbers of the part, and the free values: what the manual leaves open is an opaque
constant here, so that no proof can see it. -/
namespace Sys2Proof.Config

/-- The part's running time beyond the 32 bits of a latch time or a fault time (R165, R79 give the range and no rule
for its end). Log entry 14. -/
opaque lateTime : Nat → Nat

/-- Byte at an image offset of a block whose WRITE_POLICY was cut short by a loss of power: R197 calls the stored
block's state unknown. The first argument is the model's free-value counter. Log entry 15. -/
opaque tornByte : Nat → Nat → Byte

/-- By how much the stored check of a torn block differs from the right one, less 1: R197 says that the check fails and
not what it reads. Log entry 15. -/
opaque tornCheck : Nat → Nat

/-- Value taken for an enumerated policy byte that lies outside its set in a block whose check matches; arguments are
the image offset and the stored byte. R194 gives no value. Log entry 16. -/
opaque strayChoice : Nat → Nat → Nat

/-- Step number of the voltage set-point written for a charge voltage below 4,000 mV, which R103's range does not hold.
Log entry 17. -/
opaque strayVoltage : Nat → Nat

/-- The vendor and part codes and the revision of GET_IDENTITY (R199). -/
def vendorCode : Nat := 0x0B6A
def partCode : Nat := 0x0640
def revision : Nat := 0x01

/-- Fixed times in ms: the down wait (R7), the reboot off time (R15), the refusal display (R27), the dwell (R37), the
conflict timer (R40), the return time (R42), the identification retry (R88), the class read (R99), the switch-over (R105),
the budget retry (R111). -/
def downWaitMs : Nat := 50
def rebootOffMs : Nat := 500
def refusalDisplayMs : Nat := 3000
def dwellMs : Nat := 250
def conflictMs : Nat := 2000
def returnMs : Nat := 10000
def identifyRetryMs : Nat := 10000
def classReadMs : Nat := 100
def switchOverMs : Nat := 50
def budgetRetryMs : Nat := 5000
/-- The precharge limit of 30 min (R109) and the discharge limit of 8 h (R117), in ms. -/
def prechargeLimitMs : Nat := 1800000
def dischargeLimitMs : Nat := 28800000

end Sys2Proof.Config
end

