-- ==== Sys2Proof/Machine/State.lean ====
section
/-! DEFINITION. The block's state as plain data, block by block, and the state right after reset. -/
namespace Sys2Proof.Machine

/-! ### Shapes for a fixed number of like things -/

/-- One value for each pack slot. -/
structure PerSlot (α : Type) where
  int : α
  rear : α
  deriving DecidableEq, Repr

/-- One value for each rail, in sequence order. -/
structure PerRail (α : Type) where
  mem : α
  io : α
  core : α
  periph : α
  disp : α
  deriving DecidableEq, Repr

/-- One value for each thermistor, in the order of R150. -/
structure PerSensor (α : Type) where
  soc : α
  charger : α
  deck : α
  base : α
  deriving DecidableEq, Repr

/-- One value for each fan. -/
structure PerFan (α : Type) where
  a : α
  b : α
  deriving DecidableEq, Repr

/-- One value for each posture. -/
structure PerPosture (α : Type) where
  closed : α
  laptop : α
  tent : α
  tablet : α
  deriving DecidableEq, Repr

/-- One value for each dynamic item of the poll schedule. -/
structure PerItem (α : Type) where
  voltage : α
  current : α
  status : α
  temperature : α
  requestedCurrent : α
  requestedVoltage : α
  rsoc : α
  remainingCapacity : α
  fullCapacity : α
  deriving DecidableEq, Repr

/-! ### Power sequencer -/

/-- The eight platform power states (R1). -/
inductive PlatformState where
  | off | powerUp | run | sleepEntry | sleep | resume | powerDown | faultOff
  deriving DecidableEq, Repr

/-- The targets of REQUEST_POWER_STATE (R13). -/
inductive PowerTarget where
  | sleep | off | reboot
  deriving DecidableEq, Repr

/-- The outcome of a rail's last transition (R3). -/
inductive RailOutcome where
  | none | upOk | upTimeout | lost | downOk | downSlow
  deriving DecidableEq, Repr

/-- The phase of a rail fault (R2). -/
inductive FaultPhase where
  | up | run | down
  deriving DecidableEq, Repr

/-- Why the last refused power-on request was refused (R2). -/
inductive RefusalCause where
  | none | noEnergy | thermalHard
  deriving DecidableEq, Repr

/-- What started a POWER_UP or RESUME (R2). -/
inductive WakeCause where
  | none | button | lidOpen | keyboard | adapterChange | packChange | timer | criticalEnergy | adapterAttach | reboot
  | restore
  deriving DecidableEq, Repr

/-- What started a SLEEP_ENTRY or POWER_DOWN (R2). -/
inductive DownCause where
  | none | hostSleep | hostOff | hostReboot | longPress | criticalHard | thermalHard | escalation
  deriving DecidableEq, Repr

/-- The wake set (section 1.7). BUTTON is always in it, so it has no field. -/
structure WakeSet where
  lidOpen : Bool
  keyboard : Bool
  adapterChange : Bool
  packChange : Bool
  timer : Bool
  deriving DecidableEq, Repr

/-- The reboot restart while present (R2). -/
inductive RebootRestart where
  | waiting
  | offTime (ms : Nat)
  deriving DecidableEq, Repr

/-- One entry of the rail table (R3). -/
structure RailEntry where
  enabled : Bool
  good : Bool
  outcome : RailOutcome
  deriving DecidableEq, Repr

/-- The debounced power button (R10): no release seen since cold reset, released, held for some ms, or still held
after its long press has acted. -/
inductive Button where
  | unseen
  | released
  | held (ms : Nat)
  | spent
  deriving DecidableEq, Repr

/-- The power sequencer (R2, R3, R10, R17, R18, R20, R25, R27). -/
structure Sequencer where
  state : PlatformState
  transition : Option (PowerTarget × Nat)
  reboot : Option RebootRestart
  failureCount : Nat
  faultRecord : Option (Rail × FaultPhase)
  refusal : RefusalCause
  wakeCause : WakeCause
  downCause : DownCause
  rails : PerRail RailEntry
  /-- The rail whose power-good is waited on going up, and the ms left of its up timeout. -/
  upWait : Option (Rail × Nat)
  /-- The rail in its down wait, and the ms left. -/
  downWait : Option (Rail × Nat)
  wakeSet : WakeSet
  /-- The remaining count in s while armed. -/
  wakeTimer : Option Nat
  /-- ms counted toward the next second of the wake timer. -/
  wakeTimerMs : Nat
  /-- The wake timer has reached 0 in the present state, and its expiry is still to be taken (R18). -/
  wakeExpired : Bool
  heldWake : Option WakeCause
  button : Button
  restoreTaken : Bool
  refusalDisplay : Option Nat
  deriving DecidableEq, Repr

/-! ### Posture monitor -/

/-- The four postures (R30). -/
inductive Posture where
  | closed | laptop | tent | tablet
  deriving DecidableEq, Repr

/-- ANGLE uses the hinge angle with the halls, HALL_ONLY the halls alone (R30). -/
inductive PostureMode where
  | angle | hallOnly
  deriving DecidableEq, Repr

/-- A debounced hall level (R30). -/
inductive HallLevel where
  | unknown | inactive | active
  deriving DecidableEq, Repr

/-- The angle state (R30). -/
inductive AngleState where
  | none | valid | railFault
  deriving DecidableEq, Repr

/-- The posture record (R30). `returning` says that the return elapsed is counting (R42). -/
structure PostureMonitor where
  posture : Posture
  mode : PostureMode
  lid : HallLevel
  fold : HallLevel
  angle : Nat
  angleState : AngleState
  candidate : Option Posture
  dwell : Nat
  conflict : Option Nat
  returnElapsed : Nat
  returning : Bool
  evaluated : Bool
  deriving DecidableEq, Repr

/-! ### Keyboard scanner -/

/-- How the matrix is being read (R46). -/
inductive ScanMode where
  | stopped | active | idleDetect
  deriving DecidableEq, Repr

/-- What the scanner did with a position's press (R55). -/
inductive Disposition where
  | free | blocked | reported | fn | hotkey | rollover | ignored | latent
  deriving DecidableEq, Repr

/-- One record of the position table (R46). -/
structure PosRec where
  pressed : Bool
  count : Nat
  disposition : Disposition
  deriving DecidableEq, Repr

/-- The keymap layers (R57). -/
inductive Layer where
  | base | fn
  deriving DecidableEq, Repr

/-- The hotkey actions (R53). -/
inductive HotkeyAction where
  | none | fanBoost | fanQuiet | backlightStep | chargeLimitToggle
  deriving DecidableEq, Repr

/-- A keymap entry (R53). -/
structure KeyEntry where
  base : Byte
  fn : Byte
  modifier : Bool
  fnKey : Bool
  wake : Bool
  hotkey : HotkeyAction
  deriving DecidableEq, Repr

/-- An entry of the held-key table (R59). -/
structure HeldKey where
  position : Nat
  code : Byte
  layer : Layer
  deriving DecidableEq, Repr

/-- What a key record reports (R61). -/
inductive KeyAction where
  | press | release | resync
  deriving DecidableEq, Repr

/-- A key record (R61). -/
structure KeyRecord where
  code : Byte
  action : KeyAction
  layer : Layer
  timestamp : Nat
  deriving DecidableEq, Repr

/-- Where hotkey presses go (R46). -/
inductive HotkeyRoute where
  | scanner | host
  deriving DecidableEq, Repr

/-- The keyboard scanner (R46). The position table lists the positions whose record is not RELEASED, 0, FREE, rising;
the overrides list the positions that have one, rising. The blocked set is the positions with disposition BLOCKED. -/
structure Keyboard where
  mode : ScanMode
  positions : List (Nat × PosRec)
  held : List HeldKey
  queue : List KeyRecord
  overflowed : Bool
  suppressed : Bool
  overrides : List (Nat × Option KeyEntry)
  enabled : Bool
  route : HotkeyRoute
  caps : Bool
  num : Bool
  mute : Bool
  level : Nat
  dimmed : Bool
  /-- ms left before the backlight is dimmed. -/
  idle : Option Nat
  quiet : Nat
  deriving DecidableEq, Repr

/-! ### Pack bus controller -/

/-- The slot states (R84). -/
inductive SlotState where
  | empty | identifying | active | commLost | rejected
  deriving DecidableEq, Repr

/-- The state a COMM_LOST slot returns to (R84). -/
inductive PreviousState where
  | identifying | active | rejected
  deriving DecidableEq, Repr

/-- The first acceptance test failed (R84). -/
inductive RejectionCause where
  | none | designVoltage | cellCount | chargeVoltageLimit
  deriving DecidableEq, Repr

/-- The seven identity values (R86), as read. -/
structure Identity where
  designCapacity : Nat
  designVoltage : Nat
  cellCount : Nat
  chargeVoltageLimit : Nat
  maxDischargeCurrent : Nat
  serial : List Byte
  cycleCount : Nat
  deriving DecidableEq, Repr

/-- One entry of a poll schedule (R89): the last value as received, its age in ms, its valid flag and the end time of
its last read. -/
structure PollEntry where
  value : Option (BitVec 16)
  age : Nat
  valid : Bool
  lastEnd : Nat
  deriving DecidableEq, Repr

/-- A bus item: dynamic or identity (R75). -/
inductive Item where
  | dyn (i : DynItem)
  | ident (i : IdItem)
  deriving DecidableEq, Repr

/-- The failing outcomes a fault record can hold (R79). -/
inductive FaultOutcome where
  | nackAddress | nackData | checkFail | timeout
  deriving DecidableEq, Repr

/-- The fault record of a slot (R79); `item` is absent for ALARM. -/
structure PackFault where
  slot : Slot
  item : Option Item
  phase : BusPhase
  outcome : FaultOutcome
  attempts : Nat
  time : Nat
  deriving DecidableEq, Repr

/-- The record of one slot (R84). `draft` holds the identity values read so far in the current identification. -/
structure PackSlot where
  state : SlotState
  previous : Option PreviousState
  identity : Option Identity
  rejection : RejectionCause
  step : Nat
  draft : Identity
  /-- ms left before the next identification try in COMM_LOST. -/
  retry : Option Nat
  status : BitVec 8
  alarm : BitVec 8
  items : PerItem PollEntry
  failures : Nat
  fault : Option PackFault
  faultCount : Nat
  deriving DecidableEq, Repr

/-- A waiting read with its due time (R92). -/
structure QueueEntry where
  slot : Slot
  item : Item
  due : Nat
  deriving DecidableEq, Repr

/-- The host fresh read with the items it has still to start (R95). -/
structure FreshRead where
  slot : Slot
  left : List DynItem
  deriving DecidableEq, Repr

/-- The read in progress (R78): its counted attempts, whether an attempt is on the wires, whether its outcome is to be
discarded (R85), and whether it belongs to the host fresh read. -/
structure CurrentRead where
  slot : Slot
  item : Item
  attempts : Nat
  onWires : Bool
  discard : Bool
  fresh : Bool
  deriving DecidableEq, Repr

/-- The pack bus: the transaction queue in service order, the fresh read, the read in progress, and how many bus
recoveries the part has run. `fast` says of each slot that the period in force of its VOLTAGE, CURRENT and STATUS is the
short one (R89), so that a change of it can be told (R90). -/
structure Bus where
  fast : PerSlot Bool
  queue : List QueueEntry
  fresh : Option FreshRead
  current : Option CurrentRead
  recoveries : Nat
  deriving DecidableEq, Repr

/-! ### Charge controller -/

/-- The adapter's class (R98). -/
inductive AdapterClass where
  | none | pending | w45 | w65 | w90 | w135 | unknown45
  deriving DecidableEq, Repr

/-- The adapter record (R98). class_W is a view of the class. -/
structure Adapter where
  present : Bool
  cls : AdapterClass
  vin : Nat
  iin : Nat
  bypass : Bool
  deriving DecidableEq, Repr

/-- What carries the platform (R101). -/
inductive Supply where
  | adapter
  | pack (slot : Slot)
  | none
  deriving DecidableEq, Repr

/-- A pack's charge phase (R106). -/
inductive ChargePhase where
  | idle | qualify | precharge | constantCurrent | constantVoltage | done | hold | fault
  deriving DecidableEq, Repr

/-- Why a pack is in FAULT (R106). -/
inductive ChargeFault where
  | none | prechargeTimeout | timer
  deriving DecidableEq, Repr

/-- A pack's place in the temperature window (R106, R112). -/
inductive Band where
  | cold | normal | warm | coldHold | hotHold
  deriving DecidableEq, Repr

/-- The charge status of a slot (R106). -/
structure ChargeStatus where
  phase : ChargePhase
  fault : ChargeFault
  doneRsoc : Option Nat
  band : Band
  deriving DecidableEq, Repr

/-- The hold causes (R106). -/
structure HoldCauses where
  noAdapter : Bool
  terminate : Bool
  temp : Bool
  data : Bool
  budget : Bool
  deriving DecidableEq, Repr

/-- The reported hold cause (R106, R188). -/
inductive HoldCause where
  | none | noAdapter | terminate | temp | data | budget
  deriving DecidableEq, Repr

/-- The phases of a calibration cycle (R115). -/
inductive CalPhase where
  | none | discharge | rest | charge | ended
  deriving DecidableEq, Repr

/-- The suspension set (R115). -/
structure Suspension where
  host : Bool
  adapterLost : Bool
  platform : Bool
  thermal : Bool
  deriving DecidableEq, Repr

/-- How a cycle ended (R115). -/
inductive CalOutcome where
  | none | complete | aborted | failed
  deriving DecidableEq, Repr

/-- Why a cycle ended other than COMPLETE (R115). -/
inductive CalCause where
  | host | packRemoved | packFault | dischargeTimeout | chargeFault
  deriving DecidableEq, Repr

/-- The calibration record (R115). Times are held in ms. -/
structure CalRecord where
  phase : CalPhase
  slot : Option Slot
  suspension : Suspension
  dischargeMs : Nat
  restMs : Nat
  capacityBefore : Option Nat
  outcome : CalOutcome
  cause : Option CalCause
  endPhase : Option CalPhase
  capacityAfter : Option Nat
  deriving DecidableEq, Repr

/-- The energy status (R121). -/
inductive EnergyLevel where
  | normal | low | critical | criticalHard
  deriving DecidableEq, Repr

/-- The charge controller (R98 to R124). Times are held in ms. `calCarries` says that the adapter was removed with the
bypass ON and no attach has come since (R119). -/
structure Charger where
  adapter : Adapter
  classWait : Option Nat
  supply : Supply
  discharge : Option Slot
  packs : PerSlot ChargeStatus
  selected : Option Slot
  switchOver : Option Nat
  hold : HoldCauses
  sessionMs : Nat
  prechargeMs : Nat
  termination : Nat
  budgetRetry : Option Nat
  freshCurrent : Bool
  freshVoltage : Bool
  chargeVoltage : Option Nat
  iSet : Nat
  vSet : Nat
  switchAt : Slot
  stop : Nat
  start : Nat
  cal : CalRecord
  calCarries : Bool
  energy : EnergyLevel
  lowArmed : Bool
  judging : Bool
  deriving DecidableEq, Repr

/-! ### Budget unit -/

/-- The allocation modes (R140). -/
inductive BudgetMode where
  | chargeFirst | performanceFirst
  deriving DecidableEq, Repr

/-- What limited the charge (R138, R140). -/
inductive LimitingTerm where
  | none | request | supply | heat | stepMin | overload
  deriving DecidableEq, Repr

/-- The budget record (R140) and the time of the last evaluation. -/
structure Budget where
  a : Nat
  d : Nat
  h : Nat
  b : Nat
  heatShare : Nat
  q : Nat
  pChg : Nat
  iChg : Nat
  pEff : Nat
  pProc : Nat
  r : Nat
  mode : BudgetMode
  boost : Bool
  short : Bool
  overload : Nat
  backoff : Nat
  limiting : LimitingTerm
  evalAt : Nat
  deriving DecidableEq, Repr

/-! ### Thermal controller -/

/-- The four thermistors (R143). -/
inductive Sensor where
  | soc | charger | deck | base
  deriving DecidableEq, Repr

/-- The two fans. -/
inductive Fan where
  | a | b
  deriving DecidableEq, Repr

/-- A sensor's state (R143). -/
inductive SensorState where
  | none | valid | openFault | shortFault
  deriving DecidableEq, Repr

/-- A sensor record (R143); the temperature is in 0.1 °C. -/
structure SensorRec where
  state : SensorState
  code : Nat
  temp : Option Int
  validRun : Nat
  warn : Bool
  trip : Bool
  hard : Bool
  hs : Nat
  deriving DecidableEq, Repr

/-- A fan record (R151). `windowOk` says that the commanded duty stayed at 20 or more since the tach window began. -/
structure FanRec where
  curve : Option Nat
  target : Nat
  commanded : Nat
  manual : Nat
  rpm : Nat
  stalled : Bool
  stallCount : Nat
  recoveryCount : Nat
  windowOk : Bool
  deriving DecidableEq, Repr

/-- The fan modes (R151). -/
inductive FanMode where
  | auto | quiet | performance | manual
  deriving DecidableEq, Repr

/-- The thermal controller (R143, R150, R151, R159). -/
structure Thermal where
  sensors : PerSensor SensorRec
  h : Nat
  hMaxEff : Nat
  limiting : Sensor
  fans : PerFan FanRec
  mode : FanMode
  holdOver : Bool
  deriving DecidableEq, Repr

/-! ### Notice unit -/

/-- The 25 kinds in source order (R168). -/
inductive Kind where
  | criticalEnergy | thermalTrip | processorLimit | packAlarm | buttonPress | adapterChanged | lowEnergy | budgetShort
  | adapterOverload | fanFault | sensorFault | packChanged | sourceChanged | packCommFault | thermalWarn
  | postureChanged | railEvent | chargeState | calibrationStatus | keyAvailable | hotkey | wake | postureConflict
  | keyRollover | linkError
  deriving DecidableEq, Repr

/-- One value for each kind. -/
structure PerKind (α : Type) where
  criticalEnergy : α
  thermalTrip : α
  processorLimit : α
  packAlarm : α
  buttonPress : α
  adapterChanged : α
  lowEnergy : α
  budgetShort : α
  adapterOverload : α
  fanFault : α
  sensorFault : α
  packChanged : α
  sourceChanged : α
  packCommFault : α
  thermalWarn : α
  postureChanged : α
  railEvent : α
  chargeState : α
  calibrationStatus : α
  keyAvailable : α
  hotkey : α
  wake : α
  postureConflict : α
  keyRollover : α
  linkError : α
  deriving DecidableEq, Repr

/-- A kind's payload (R168). `empty` is the payload of an entry never latched, and of the kinds that carry none. -/
inductive Payload where
  | empty
  | criticalEnergy (level : EnergyLevel) (charge : Option Nat)
  | sensors (set : PerSensor Bool)
  | processorLimit (r : Nat)
  | packAlarm (slots : PerSlot Bool) (flags : BitVec 8)
  | adapterChanged (present : Bool) (cls : AdapterClass)
  | fanFault (stalled : PerFan Bool)
  | slots (set : PerSlot Bool)
  | sourceChanged (supply : Supply) (discharge : Option Slot)
  | postureChanged (posture : Posture) (angle : Nat) (mode : PostureMode)
  /-- The phase is present for FAULT and absent for SLOW_DISCHARGE (R168). -/
  | railEvent (rail : Rail) (phase : Option FaultPhase)
  | chargeState (slot : Slot) (phase : ChargePhase) (hold : HoldCause)
  | calibration (record : CalRecord)
  | hotkey (action : HotkeyAction) (setting settingHigh : Nat)
  | wake (cause : WakeCause)
  deriving DecidableEq, Repr

/-- An entry of the event table (R165). -/
structure EventEntry where
  pending : Bool
  count : Nat
  mask : Bool
  level : Nat
  payload : Payload
  latchTime : Nat
  deriving DecidableEq, Repr

/-- The notice unit (R165, R170, R175). A window is absent while STOPPED. -/
structure Notices where
  table : PerKind EventEntry
  floor : Nat
  critWindow : Option Nat
  tripWindow : Option Nat
  deriving DecidableEq, Repr

/-! ### Link controller -/

/-- The status codes (R184). -/
inductive Status where
  | ok | pending | clamped | badKind | badLen | badValue | badState | busy | denied | noData
  deriving DecidableEq, Repr

/-- The response slot (R182) with the owning block's answer as its payload. The frame carries LEN bytes of it, 0..56: all of it,
but for the answer of GET_THERMAL (`Response.sent`; log entry 9). -/
structure Response where
  rkind : Byte
  tag : Byte
  status : Status
  payload : List Byte
  deriving DecidableEq, Repr

/-- A request in processing (R183) with the time its programming still takes (R193). `done` says that the third read
of the fresh read has ended (R95). -/
inductive Processing where
  | freshRead (tag : Byte) (slot : Slot) (done : Bool)
  | writePolicy (tag : Byte) (offset : Nat) (data : List Byte) (ms : Nat)
  | freeze (tag : Byte) (ms : Nat)
  deriving DecidableEq, Repr

/-- The link controller (R180, R182). -/
structure Link where
  slot : Response
  processing : Option Processing
  deriving DecidableEq, Repr

/-! ### Configuration store -/

/-- A fan curve (R152): the point count and eight places of temperature and duty. -/
structure Curve where
  count : Nat
  points : List (Int × Nat)
  deriving DecidableEq, Repr

/-- The restore policies (R25). -/
inductive RestorePolicy where
  | stayOff | alwaysOn | lastState
  deriving DecidableEq, Repr

/-- The active policy (R193): the fields of R192's two tables. Temperatures are in 0.1 °C. The keymap lists the positions
whose entry differs from the built-in default, rising. -/
structure Policy where
  perCellMax : Nat
  acceptLow : Nat
  acceptHigh : Nat
  limits : PerSlot Nat
  socTrip : Int
  socHard : Int
  chargerTrip : Int
  chargerHard : Int
  critWindow : Nat
  tripWindow : Nat
  pMax : Nat
  hMax : Nat
  hMin : Nat
  keymap : List (Nat × KeyEntry)
  upTimeout : Nat
  restore : RestorePolicy
  longPress : Nat
  settleDelay : Nat
  bootFloor : Nat
  powerOnAtAdapter : Bool
  wakeDefault : WakeSet
  pressCount : Nat
  releaseCount : Nat
  backlightDefault : Nat
  idleTime : Nat
  keyboardDefault : Bool
  routeDefault : HotkeyRoute
  dischargeRearFirst : Bool
  chargeIntFirst : Bool
  terminationCurrent : Nat
  sessionHours : Nat
  restMinutes : Nat
  stopDefault : Nat
  startDefault : Nat
  longevityStop : Nat
  longevityStart : Nat
  lowThreshold : Nat
  criticalThreshold : Nat
  derate : Nat
  bRun : Nat
  bIdle : Nat
  floorPower : Nat
  heatShare : Nat
  modeDefault : BudgetMode
  boostDefault : Bool
  boostFloor : Nat
  fanModeDefault : FanMode
  socL : Int
  socWarn : Int
  chargerL : Int
  chargerWarn : Int
  deckL : PerPosture Int
  baseL : PerPosture Int
  span : Int
  safeFloor : PerFan Nat
  curves : PerFan Curve
  deriving DecidableEq, Repr

/-- A stored region: cells in rising order of address, none equal to what an unlisted address reads as. -/
abbrev Memory := List Host.Cell

/-- The configuration store (R193). -/
structure Store where
  factory : Memory
  image : Memory
  marker : Bool
  frozen : Bool
  protectedValid : Bool
  generalValid : Bool
  policy : Policy
  deriving DecidableEq, Repr

/-! ### Output pins -/

/-- An indicator pattern (R26). -/
inductive Pattern where
  | off
  | steady
  | single (period on : Nat)
  | double (period on : Nat)
  deriving DecidableEq, Repr

/-- An indicator: its pattern and the running time at which the pattern began. -/
structure Led where
  pattern : Pattern
  since : Nat
  deriving DecidableEq, Repr

/-- The output pins that no block's record names (R26, R69, R70, R123, R170). -/
structure Pins where
  alert : Bool
  capsLamp : Bool
  numLamp : Bool
  muteLamp : Bool
  backlight : Nat
  powerLed : Led
  chargeLed : Led
  deriving DecidableEq, Repr

/-! ### The whole block -/

/-- The state: the commands that wait, the running time in ms since cold reset, the counter that free values are
applied to (log entry 2), and the ten blocks. -/
structure State where
  pending : List Instr
  now : Nat
  free : Nat
  pwr : Sequencer
  post : PostureMonitor
  kbd : Keyboard
  packs : PerSlot PackSlot
  bus : Bus
  chg : Charger
  bud : Budget
  thr : Thermal
  notice : Notices
  link : Link
  store : Store
  pins : Pins
  deriving DecidableEq, Repr

/-- No rule of the manual stops the part, so there is no fault. -/
inductive Fault where
  deriving DecidableEq, Repr

/-- Reasons for a refusal. -/
inductive Refusal where
  /-- Raised by an arm of exec whose command has no meaning yet; safe, since nothing is claimed of it. -/
  | notModelled (mnemonic : String)
  deriving DecidableEq, Repr

/-! ### Reset values -/

/-- The eight places of a default curve, unused places zero. -/
def defaultCurveA : Curve :=
  { count := 5, points := [(500, 0), (600, 30), (750, 50), (850, 75), (950, 100), (0, 0), (0, 0), (0, 0)] }

def defaultCurveB : Curve :=
  { count := 5, points := [(400, 0), (450, 25), (600, 50), (800, 80), (900, 100), (0, 0), (0, 0), (0, 0)] }

/-- The built-in defaults of every policy field (R194), as the owning chapters give them. -/
def Policy.builtIn : Policy :=
  { perCellMax := 4400, acceptLow := 10800, acceptHigh := 15400, limits := { int := 3500, rear := 3000 },
    socTrip := 1000, socHard := 1050, chargerTrip := 900, chargerHard := 1000,
    critWindow := 30000, tripWindow := 10000, pMax := 45000, hMax := 60000, hMin := 15000,
    keymap := [], upTimeout := 20, restore := .stayOff, longPress := 4000, settleDelay := 100, bootFloor := 3,
    powerOnAtAdapter := false,
    wakeDefault := { lidOpen := true, keyboard := false, adapterChange := false, packChange := false, timer := false },
    pressCount := 2, releaseCount := 3, backlightDefault := 1, idleTime := 30, keyboardDefault := true,
    routeDefault := .scanner, dischargeRearFirst := true, chargeIntFirst := true, terminationCurrent := 150,
    sessionHours := 8, restMinutes := 30, stopDefault := 100, startDefault := 95, longevityStop := 80,
    longevityStart := 75, lowThreshold := 10, criticalThreshold := 4, derate := 900, bRun := 12000, bIdle := 1500,
    floorPower := 5000, heatShare := 100, modeDefault := .chargeFirst, boostDefault := false, boostFloor := 30,
    fanModeDefault := .auto, socL := 950, socWarn := 950, chargerL := 800, chargerWarn := 800,
    deckL := { closed := 520, laptop := 450, tent := 500, tablet := 420 },
    baseL := { closed := 500, laptop := 480, tent := 500, tablet := 430 },
    span := 100, safeFloor := { a := 40, b := 40 }, curves := { a := defaultCurveA, b := defaultCurveB } }

/-- An entry after a cold reset at a default level (R177). -/
def freshEntry (level : Nat) : EventEntry :=
  { pending := false, count := 0, mask := false, level := level, payload := .empty, latchTime := 0 }

/-- The event table after a cold reset (R177). -/
def freshTable : PerKind EventEntry :=
  { criticalEnergy := freshEntry 7, thermalTrip := freshEntry 7, processorLimit := freshEntry 6,
    packAlarm := freshEntry 6, buttonPress := freshEntry 5, adapterChanged := freshEntry 5, lowEnergy := freshEntry 5,
    budgetShort := freshEntry 5, adapterOverload := freshEntry 5, fanFault := freshEntry 5, sensorFault := freshEntry 5,
    packChanged := freshEntry 4, sourceChanged := freshEntry 4, packCommFault := freshEntry 4,
    thermalWarn := freshEntry 4, postureChanged := freshEntry 4, railEvent := freshEntry 4, chargeState := freshEntry 3,
    calibrationStatus := freshEntry 3, keyAvailable := freshEntry 3, hotkey := freshEntry 3, wake := freshEntry 3,
    postureConflict := freshEntry 2, keyRollover := freshEntry 2, linkError := freshEntry 1 }

/-- A poll entry with no value (R84). -/
def PollEntry.absent : PollEntry := { value := none, age := 0, valid := false, lastEnd := 0 }

/-- No identity value read (log entry 7). -/
def Identity.blank : Identity :=
  { designCapacity := 0, designVoltage := 0, cellCount := 0, chargeVoltageLimit := 0, maxDischargeCurrent := 0,
    serial := [], cycleCount := 0 }

/-- The record of an EMPTY slot, the Reset column of R84. -/
def PackSlot.cleared : PackSlot :=
  { state := .empty, previous := none, identity := none, rejection := .none, step := 0, draft := Identity.blank,
    retry := none, status := 0, alarm := 0,
    items := { voltage := .absent, current := .absent, status := .absent, temperature := .absent,
               requestedCurrent := .absent, requestedVoltage := .absent, rsoc := .absent,
               remainingCapacity := .absent, fullCapacity := .absent },
    failures := 0, fault := none, faultCount := 0 }

/-- The Reset column of R106 for one slot. -/
def ChargeStatus.cleared : ChargeStatus := { phase := .idle, fault := .none, doneRsoc := none, band := .normal }

/-- The empty set of hold causes. -/
def HoldCauses.clear : HoldCauses :=
  { noAdapter := false, terminate := false, temp := false, data := false, budget := false }

/-- The empty suspension. -/
def Suspension.clear : Suspension := { host := false, adapterLost := false, platform := false, thermal := false }

/-- The Reset column of R115. -/
def CalRecord.blank : CalRecord :=
  { phase := .none, slot := none, suspension := .clear, dischargeMs := 0, restMs := 0, capacityBefore := none,
    outcome := .none, cause := none, endPhase := none, capacityAfter := none }

/-- A rail after a cold reset, its power-good input at the level given (R3). -/
def RailEntry.afterReset (good : Bool) : RailEntry := { enabled := false, good := good, outcome := .none }

/-- The Reset column of R143, with H_s at the H_min given. -/
def SensorRec.afterReset (hMin : Nat) : SensorRec :=
  { state := .none, code := 0, temp := none, validRun := 0, warn := false, trip := false, hard := false, hs := hMin }

/-- The Reset column of R151. -/
def FanRec.afterReset : FanRec :=
  { curve := none, target := 100, commanded := 100, manual := 0, rpm := 0, stalled := false, stallCount := 0,
    recoveryCount := 0, windowOk := true }

/-- The response slot after a cold reset (R182). -/
def Response.afterReset : Response := { rkind := 0x00, tag := 0x00, status := .noData, payload := [] }

/-- An indicator that shows OFF from the cold reset. -/
def Led.dark : Led := { pattern := .off, since := 0 }

/-- The machine right after reset: every field at the Reset column of its chapter, with blank stored regions (log entry
6), whose two blocks fail their checks, so that the active policy is the built-in one (R194). The power-good inputs
read low (log entry 5). -/
def State.reset : State :=
  { pending := [], now := 0, free := 0,
    pwr :=
      { state := .off, transition := none, reboot := none, failureCount := 0, faultRecord := none, refusal := .none,
        wakeCause := .none, downCause := .none,
        rails := { mem := .afterReset false, io := .afterReset false, core := .afterReset false,
                   periph := .afterReset false, disp := .afterReset false },
        upWait := none, downWait := none, wakeSet := Policy.builtIn.wakeDefault, wakeTimer := none, wakeTimerMs := 0,
        wakeExpired := false, heldWake := none, button := .unseen, restoreTaken := false, refusalDisplay := none },
    post :=
      { posture := .laptop, mode := .angle, lid := .unknown, fold := .unknown, angle := 0, angleState := .none,
        candidate := none, dwell := 0, conflict := none, returnElapsed := 0, returning := false, evaluated := false },
    kbd :=
      { mode := .stopped, positions := [], held := [], queue := [], overflowed := false, suppressed := true,
        overrides := [], enabled := true, route := .scanner, caps := false, num := false, mute := false, level := 1,
        dimmed := false, idle := none, quiet := 0 },
    packs := { int := .cleared, rear := .cleared },
    bus := { fast := { int := false, rear := false }, queue := [], fresh := none, current := none, recoveries := 0 },
    chg :=
      { adapter := { present := false, cls := .none, vin := 0, iin := 0, bypass := false }, classWait := none,
        supply := .none, discharge := none, packs := { int := .cleared, rear := .cleared }, selected := none,
        switchOver := none, hold := .clear, sessionMs := 0, prechargeMs := 0, termination := 0, budgetRetry := none,
        freshCurrent := false, freshVoltage := false, chargeVoltage := none, iSet := 0, vSet := 4000, switchAt := .int,
        stop := 100, start := 95, cal := .blank, calCarries := false, energy := .normal, lowArmed := true, judging := false },
    bud :=
      { a := 0, d := 0, h := 0, b := 0, heatShare := 0, q := 0, pChg := 0, iChg := 0, pEff := 0, pProc := 5000, r := 5000,
        mode := .chargeFirst, boost := false, short := true, overload := 0, backoff := 0, limiting := .none,
        evalAt := 0 },
    thr :=
      { sensors := { soc := .afterReset 15000, charger := .afterReset 15000, deck := .afterReset 15000,
                     base := .afterReset 15000 },
        h := 15000, hMaxEff := 60000, limiting := .soc, fans := { a := .afterReset, b := .afterReset }, mode := .auto,
        holdOver := false },
    notice := { table := freshTable, floor := 0, critWindow := none, tripWindow := none },
    link := { slot := .afterReset, processing := none },
    store :=
      { factory := [], image := [], marker := false, frozen := false, protectedValid := false, generalValid := false,
        policy := Policy.builtIn },
    pins :=
      { alert := false, capsLamp := false, numLamp := false, muteLamp := false, backlight := 0, powerLed := .dark,
        chargeLed := .dark } }

end Sys2Proof.Machine
end

