-- ==== Sys2Proof/Machine/Access.lean ====
section
/-! DEFINITION. Reading and writing the values that stand for a fixed number of like things. -/
namespace Sys2Proof.Machine

variable {α : Type}

/-- The value for one key. -/
def PerSlot.get (t : PerSlot α) : Slot → α
  | .int => t.int
  | .rear => t.rear

/-- The values with one key's replaced. -/
def PerSlot.set (t : PerSlot α) (k : Slot) (v : α) : PerSlot α :=
  match k with
  | .int => { t with int := v }
  | .rear => { t with rear := v }

/-- The value for one key. -/
def PerRail.get (t : PerRail α) : Rail → α
  | .mem => t.mem
  | .io => t.io
  | .core => t.core
  | .periph => t.periph
  | .disp => t.disp

/-- The values with one key's replaced. -/
def PerRail.set (t : PerRail α) (k : Rail) (v : α) : PerRail α :=
  match k with
  | .mem => { t with mem := v }
  | .io => { t with io := v }
  | .core => { t with core := v }
  | .periph => { t with periph := v }
  | .disp => { t with disp := v }

/-- The value for one key. -/
def PerSensor.get (t : PerSensor α) : Sensor → α
  | .soc => t.soc
  | .charger => t.charger
  | .deck => t.deck
  | .base => t.base

/-- The values with one key's replaced. -/
def PerSensor.set (t : PerSensor α) (k : Sensor) (v : α) : PerSensor α :=
  match k with
  | .soc => { t with soc := v }
  | .charger => { t with charger := v }
  | .deck => { t with deck := v }
  | .base => { t with base := v }

/-- The value for one key. -/
def PerFan.get (t : PerFan α) : Fan → α
  | .a => t.a
  | .b => t.b

/-- The values with one key's replaced. -/
def PerFan.set (t : PerFan α) (k : Fan) (v : α) : PerFan α :=
  match k with
  | .a => { t with a := v }
  | .b => { t with b := v }

/-- The value for one key. -/
def PerPosture.get (t : PerPosture α) : Posture → α
  | .closed => t.closed
  | .laptop => t.laptop
  | .tent => t.tent
  | .tablet => t.tablet

/-- The values with one key's replaced. -/
def PerPosture.set (t : PerPosture α) (k : Posture) (v : α) : PerPosture α :=
  match k with
  | .closed => { t with closed := v }
  | .laptop => { t with laptop := v }
  | .tent => { t with tent := v }
  | .tablet => { t with tablet := v }

/-- The value for one key. -/
def PerItem.get (t : PerItem α) : DynItem → α
  | .voltage => t.voltage
  | .current => t.current
  | .status => t.status
  | .temperature => t.temperature
  | .requestedCurrent => t.requestedCurrent
  | .requestedVoltage => t.requestedVoltage
  | .rsoc => t.rsoc
  | .remainingCapacity => t.remainingCapacity
  | .fullCapacity => t.fullCapacity

/-- The values with one key's replaced. -/
def PerItem.set (t : PerItem α) (k : DynItem) (v : α) : PerItem α :=
  match k with
  | .voltage => { t with voltage := v }
  | .current => { t with current := v }
  | .status => { t with status := v }
  | .temperature => { t with temperature := v }
  | .requestedCurrent => { t with requestedCurrent := v }
  | .requestedVoltage => { t with requestedVoltage := v }
  | .rsoc => { t with rsoc := v }
  | .remainingCapacity => { t with remainingCapacity := v }
  | .fullCapacity => { t with fullCapacity := v }

/-- The value for one key. -/
def PerKind.get (t : PerKind α) : Kind → α
  | .criticalEnergy => t.criticalEnergy
  | .thermalTrip => t.thermalTrip
  | .processorLimit => t.processorLimit
  | .packAlarm => t.packAlarm
  | .buttonPress => t.buttonPress
  | .adapterChanged => t.adapterChanged
  | .lowEnergy => t.lowEnergy
  | .budgetShort => t.budgetShort
  | .adapterOverload => t.adapterOverload
  | .fanFault => t.fanFault
  | .sensorFault => t.sensorFault
  | .packChanged => t.packChanged
  | .sourceChanged => t.sourceChanged
  | .packCommFault => t.packCommFault
  | .thermalWarn => t.thermalWarn
  | .postureChanged => t.postureChanged
  | .railEvent => t.railEvent
  | .chargeState => t.chargeState
  | .calibrationStatus => t.calibrationStatus
  | .keyAvailable => t.keyAvailable
  | .hotkey => t.hotkey
  | .wake => t.wake
  | .postureConflict => t.postureConflict
  | .keyRollover => t.keyRollover
  | .linkError => t.linkError

/-- The values with one key's replaced. -/
def PerKind.set (t : PerKind α) (k : Kind) (v : α) : PerKind α :=
  match k with
  | .criticalEnergy => { t with criticalEnergy := v }
  | .thermalTrip => { t with thermalTrip := v }
  | .processorLimit => { t with processorLimit := v }
  | .packAlarm => { t with packAlarm := v }
  | .buttonPress => { t with buttonPress := v }
  | .adapterChanged => { t with adapterChanged := v }
  | .lowEnergy => { t with lowEnergy := v }
  | .budgetShort => { t with budgetShort := v }
  | .adapterOverload => { t with adapterOverload := v }
  | .fanFault => { t with fanFault := v }
  | .sensorFault => { t with sensorFault := v }
  | .packChanged => { t with packChanged := v }
  | .sourceChanged => { t with sourceChanged := v }
  | .packCommFault => { t with packCommFault := v }
  | .thermalWarn => { t with thermalWarn := v }
  | .postureChanged => { t with postureChanged := v }
  | .railEvent => { t with railEvent := v }
  | .chargeState => { t with chargeState := v }
  | .calibrationStatus => { t with calibrationStatus := v }
  | .keyAvailable => { t with keyAvailable := v }
  | .hotkey => { t with hotkey := v }
  | .wake => { t with wake := v }
  | .postureConflict => { t with postureConflict := v }
  | .keyRollover => { t with keyRollover := v }
  | .linkError => { t with linkError := v }

/-- The same update of every poll entry. -/
def PerItem.map (f : DynItem → α → α) (t : PerItem α) : PerItem α :=
  { voltage := f .voltage t.voltage,
    current := f .current t.current,
    status := f .status t.status,
    temperature := f .temperature t.temperature,
    requestedCurrent := f .requestedCurrent t.requestedCurrent,
    requestedVoltage := f .requestedVoltage t.requestedVoltage,
    rsoc := f .rsoc t.rsoc,
    remainingCapacity := f .remainingCapacity t.remainingCapacity,
    fullCapacity := f .fullCapacity t.fullCapacity }

/-- The same update of both slots' values. -/
def PerSlot.map (f : Slot → α → α) (t : PerSlot α) : PerSlot α := { int := f .int t.int, rear := f .rear t.rear }

/-- The same update of both fans' values. -/
def PerFan.map (f : Fan → α → α) (t : PerFan α) : PerFan α := { a := f .a t.a, b := f .b t.b }

/-- The same update of every sensor's value. -/
def PerSensor.map (f : Sensor → α → α) (t : PerSensor α) : PerSensor α :=
  { soc := f .soc t.soc, charger := f .charger t.charger, deck := f .deck t.deck, base := f .base t.base }

/-- The same update of every kind's entry. -/
def PerKind.map (f : Kind → α → α) (t : PerKind α) : PerKind α :=
  { criticalEnergy := f .criticalEnergy t.criticalEnergy,
    thermalTrip := f .thermalTrip t.thermalTrip,
    processorLimit := f .processorLimit t.processorLimit,
    packAlarm := f .packAlarm t.packAlarm,
    buttonPress := f .buttonPress t.buttonPress,
    adapterChanged := f .adapterChanged t.adapterChanged,
    lowEnergy := f .lowEnergy t.lowEnergy,
    budgetShort := f .budgetShort t.budgetShort,
    adapterOverload := f .adapterOverload t.adapterOverload,
    fanFault := f .fanFault t.fanFault,
    sensorFault := f .sensorFault t.sensorFault,
    packChanged := f .packChanged t.packChanged,
    sourceChanged := f .sourceChanged t.sourceChanged,
    packCommFault := f .packCommFault t.packCommFault,
    thermalWarn := f .thermalWarn t.thermalWarn,
    postureChanged := f .postureChanged t.postureChanged,
    railEvent := f .railEvent t.railEvent,
    chargeState := f .chargeState t.chargeState,
    calibrationStatus := f .calibrationStatus t.calibrationStatus,
    keyAvailable := f .keyAvailable t.keyAvailable,
    hotkey := f .hotkey t.hotkey,
    wake := f .wake t.wake,
    postureConflict := f .postureConflict t.postureConflict,
    keyRollover := f .keyRollover t.keyRollover,
    linkError := f .linkError t.linkError }

/-- The kinds in source order (R168). -/
def allKinds : List Kind :=
  [.criticalEnergy, .thermalTrip, .processorLimit, .packAlarm, .buttonPress, .adapterChanged, .lowEnergy,
    .budgetShort, .adapterOverload, .fanFault, .sensorFault, .packChanged, .sourceChanged, .packCommFault,
    .thermalWarn, .postureChanged, .railEvent, .chargeState, .calibrationStatus, .keyAvailable, .hotkey, .wake,
    .postureConflict, .keyRollover, .linkError]

/-- The dynamic items in the order of the poll schedule list (R89). -/
def allDynItems : List DynItem :=
  [.voltage, .current, .status, .temperature, .requestedCurrent, .requestedVoltage, .rsoc, .remainingCapacity,
    .fullCapacity]

/-- The slots, INT first. -/
def allSlots : List Slot := [.int, .rear]

/-- The sensors in the order of R150. -/
def allSensors : List Sensor := [.soc, .charger, .deck, .base]

/-- The rails going up and going down (R3). -/
def railsUp : List Rail := [.mem, .io, .core, .periph, .disp]
def railsDown : List Rail := [.disp, .periph, .core, .io, .mem]

/-- The other slot. -/
def otherSlot : Slot → Slot
  | .int => .rear
  | .rear => .int

end Sys2Proof.Machine
end

