-- ==== Sys2Proof/Machine/Memory.lean ====
section
/-! DEFINITION. Tables held sparsely: a list of (key, value) pairs with keys strictly rising and no value equal to what an
unlisted key reads as. The stored regions, the keymap, the overrides and the position table are such tables. -/
namespace Sys2Proof.Machine

variable {α : Type}

/-- The value at a key; `d` gives what an unlisted key reads as. -/
def sparseGet (d : Nat → α) : List (Nat × α) → Nat → α
  | [], k => d k
  | (a, v) :: m, k => if a = k then v else sparseGet d m k

/-- The table with one value replaced; a value that an unlisted key reads as is not listed. -/
def sparseSet [DecidableEq α] (d : Nat → α) : List (Nat × α) → Nat → α → List (Nat × α)
  | [], k, v => if v = d k then [] else [(k, v)]
  | (a, w) :: m, k, v =>
    if k < a then (if v = d k then (a, w) :: m else (k, v) :: (a, w) :: m)
    else if k = a then (if v = d k then m else (k, v) :: m)
    else (a, w) :: sparseSet d m k v

/-- The canonical form: keys at least `lo` and strictly rising, and no value equal to what its key reads as unlisted. -/
def sparseWf [DecidableEq α] (d : Nat → α) : Nat → List (Nat × α) → Bool
  | _, [] => true
  | lo, (a, v) :: m => decide (lo ≤ a) && !decide (v = d a) && sparseWf d (a + 1) m

/-- What an unlisted byte of a stored region reads as (R195 for unassigned FACTORY bytes; log entry 6). -/
def blankByte (_address : Nat) : Byte := 0xFF

/-- One byte of a stored region. -/
def Memory.read (m : Memory) (address : Nat) : Byte := sparseGet blankByte m address

/-- A stored region with one byte written. -/
def Memory.write (m : Memory) (address : Nat) (b : Byte) : Memory := sparseSet blankByte m address b

/-- The canonical form of a stored region. -/
def Memory.wf (m : Memory) : Bool := sparseWf blankByte 0 m

/-- `n` bytes from an address onward. -/
def Memory.readBytes (m : Memory) (address n : Nat) : List Byte := (List.range n).map fun i => m.read (address + i)

/-- A stored region with bytes written from an address onward. -/
def Memory.writeBytes (m : Memory) (address : Nat) : List Byte → Memory
  | [] => m
  | b :: bs => (m.write address b).writeBytes (address + 1) bs

end Sys2Proof.Machine
end

