-- ==== Sys2Proof/Machine/Flags.lean ====
section
/-! DEFINITION. The pack flag word and the three checks: the CRC-8 of the pack bus, the CRC-16 of the policy blocks and
the range checks that clamp a value. -/
namespace Sys2Proof.Machine

/-! ### The pack flag word (R75, R187) -/

def overCharge : BitVec 8 := 0x01
def terminateCharge : BitVec 8 := 0x02
def overTemp : BitVec 8 := 0x04
def terminateDischarge : BitVec 8 := 0x08
def lowCapacity : BitVec 8 := 0x10
def fullyCharged : BitVec 8 := 0x20
def fullyDischarged : BitVec 8 := 0x40
def cellImbalance : BitVec 8 := 0x80

/-- Whether a flag word shows a flag. -/
def shows (word flag : BitVec 8) : Bool := word &&& flag != 0

/-- The flags of a received word: bits 8..15 name no flag (R75, R187). -/
def flagsOf (word : BitVec 16) : BitVec 8 := word.setWidth 8

/-! ### Check bytes -/

/-- One bit of a CRC of `width` bits: shift left and, when a 1 leaves, add the polynomial. -/
def crcBit (width poly crc : Nat) : Nat :=
  if crc.testBit (width - 1) then ((crc <<< 1) % 2 ^ width) ^^^ poly else (crc <<< 1) % 2 ^ width

/-- Eight bits, most significant first. -/
def crcByte (width poly crc : Nat) (b : Byte) : Nat :=
  Nat.repeat (crcBit width poly) 8 (crc ^^^ (b.toNat <<< (width - 8)))

/-- The CRC-8 of the pack bus: x^8 + x^2 + x + 1, initial value 0 (R76). -/
def crc8 (bytes : List Byte) : Byte := BitVec.ofNat 8 (bytes.foldl (crcByte 8 0x07) 0)

/-- The CRC-16 of a policy block: polynomial 0x1021, initial value 0xFFFF (R194). -/
def crc16 (bytes : List Byte) : Nat := bytes.foldl (crcByte 16 0x1021) 0xFFFF

/-! ### Ranges -/

/-- A number brought into lo..hi. -/
def clampNat (lo hi n : Nat) : Nat := if n < lo then lo else if hi < n then hi else n

/-- A number brought into lo..hi. -/
def clampInt (lo hi n : Int) : Int := if n < lo then lo else if hi < n then hi else n

end Sys2Proof.Machine
end

