-- ==== Sys2Proof/Machine/Operands.lean ====
section
/-! DEFINITION. The forms that payload fields take (R187 to R191): little-endian numbers, enumerations as the index of the
value in the owning rule's list, sets as bits, absent values; and the reading of request bytes. -/
namespace Sys2Proof.Machine

/-! ### Numbers -/

/-- A number as one byte. -/
def le8 (n : Nat) : List Byte := [BitVec.ofNat 8 n]

/-- A number as two bytes, least significant first. -/
def le16 (n : Nat) : List Byte := [BitVec.ofNat 8 n, BitVec.ofNat 8 (n / 256)]

/-- A number as four bytes, least significant first. -/
def le32 (n : Nat) : List Byte :=
  [BitVec.ofNat 8 n, BitVec.ofNat 8 (n / 256), BitVec.ofNat 8 (n / 65536), BitVec.ofNat 8 (n / 16777216)]

/-- A signed number as two bytes. -/
def leInt16 (n : Int) : List Byte := le16 (BitVec.ofInt 16 n).toNat

/-- The number whose bytes stand least significant first. -/
def fromLe : List Byte → Nat
  | [] => 0
  | b :: bs => b.toNat + 256 * fromLe bs

/-- A flag as one byte. -/
def flag8 (b : Bool) : List Byte := [if b then 1 else 0]

/-- A one-byte field that reads 0xFF when absent. -/
def opt8 : Option Nat → List Byte
  | none => [0xFF]
  | some n => le8 n

/-- A two-byte field that reads 0xFFFF when absent. -/
def opt16 : Option Nat → List Byte
  | none => [0xFF, 0xFF]
  | some n => le16 n

/-- A temperature, 0x8000 when absent (R187). -/
def optTemp : Option Int → List Byte
  | none => le16 0x8000
  | some t => leInt16 t

/-- The running time as the four bytes of a latch time or a fault time; beyond their range it is a free value
(log entry 14). -/
def time32 (now : Nat) : Nat := if now < 4294967296 then now else Config.lateTime now

/-! ### Enumerations, in the order of the rule that lists them -/

/-- R1. -/
def PlatformState.index : PlatformState → Nat
  | .off => 0
  | .powerUp => 1
  | .run => 2
  | .sleepEntry => 3
  | .sleep => 4
  | .resume => 5
  | .powerDown => 6
  | .faultOff => 7

/-- R13. -/
def PowerTarget.index : PowerTarget → Nat
  | .sleep => 0
  | .off => 1
  | .reboot => 2

/-- R3. -/
def RailOutcome.index : RailOutcome → Nat
  | .none => 0
  | .upOk => 1
  | .upTimeout => 2
  | .lost => 3
  | .downOk => 4
  | .downSlow => 5

/-- R2. -/
def FaultPhase.index : FaultPhase → Nat
  | .up => 0
  | .run => 1
  | .down => 2

/-- R2. -/
def RefusalCause.index : RefusalCause → Nat
  | .none => 0
  | .noEnergy => 1
  | .thermalHard => 2

/-- R2. -/
def WakeCause.index : WakeCause → Nat
  | .none => 0
  | .button => 1
  | .lidOpen => 2
  | .keyboard => 3
  | .adapterChange => 4
  | .packChange => 5
  | .timer => 6
  | .criticalEnergy => 7
  | .adapterAttach => 8
  | .reboot => 9
  | .restore => 10

/-- R2. -/
def DownCause.index : DownCause → Nat
  | .none => 0
  | .hostSleep => 1
  | .hostOff => 2
  | .hostReboot => 3
  | .longPress => 4
  | .criticalHard => 5
  | .thermalHard => 6
  | .escalation => 7

/-- R25. -/
def RestorePolicy.index : RestorePolicy → Nat
  | .stayOff => 0
  | .alwaysOn => 1
  | .lastState => 2

/-- R30. -/
def Posture.index : Posture → Nat
  | .closed => 0
  | .laptop => 1
  | .tent => 2
  | .tablet => 3

/-- R30. -/
def PostureMode.index : PostureMode → Nat
  | .angle => 0
  | .hallOnly => 1

/-- R30. -/
def HallLevel.index : HallLevel → Nat
  | .unknown => 0
  | .inactive => 1
  | .active => 2

/-- R30. -/
def AngleState.index : AngleState → Nat
  | .none => 0
  | .valid => 1
  | .railFault => 2

/-- R53. -/
def HotkeyAction.index : HotkeyAction → Nat
  | .none => 0
  | .fanBoost => 1
  | .fanQuiet => 2
  | .backlightStep => 3
  | .chargeLimitToggle => 4

/-- R189. -/
def KeyAction.index : KeyAction → Nat
  | .press => 0
  | .release => 1
  | .resync => 2

/-- R84. -/
def SlotState.index : SlotState → Nat
  | .empty => 0
  | .identifying => 1
  | .active => 2
  | .commLost => 3
  | .rejected => 4

/-- R84, counted within the previous state's own list (log entry 11). -/
def PreviousState.index : PreviousState → Nat
  | .identifying => 0
  | .active => 1
  | .rejected => 2

/-- R84. -/
def RejectionCause.index : RejectionCause → Nat
  | .none => 0
  | .designVoltage => 1
  | .cellCount => 2
  | .chargeVoltageLimit => 3

/-- R79. -/
def FaultOutcome.index : FaultOutcome → Nat
  | .nackAddress => 0
  | .nackData => 1
  | .checkFail => 2
  | .timeout => 3

/-- R98. -/
def AdapterClass.index : AdapterClass → Nat
  | .none => 0
  | .pending => 1
  | .w45 => 2
  | .w65 => 3
  | .w90 => 4
  | .w135 => 5
  | .unknown45 => 6

/-- R106. -/
def ChargePhase.index : ChargePhase → Nat
  | .idle => 0
  | .qualify => 1
  | .precharge => 2
  | .constantCurrent => 3
  | .constantVoltage => 4
  | .done => 5
  | .hold => 6
  | .fault => 7

/-- R106. -/
def ChargeFault.index : ChargeFault → Nat
  | .none => 0
  | .prechargeTimeout => 1
  | .timer => 2

/-- R106. -/
def Band.index : Band → Nat
  | .cold => 0
  | .normal => 1
  | .warm => 2
  | .coldHold => 3
  | .hotHold => 4

/-- R188. -/
def HoldCause.index : HoldCause → Nat
  | .none => 0
  | .noAdapter => 1
  | .terminate => 2
  | .temp => 3
  | .data => 4
  | .budget => 5

/-- R115. -/
def CalPhase.index : CalPhase → Nat
  | .none => 0
  | .discharge => 1
  | .rest => 2
  | .charge => 3
  | .ended => 4

/-- R115. -/
def CalOutcome.index : CalOutcome → Nat
  | .none => 0
  | .complete => 1
  | .aborted => 2
  | .failed => 3

/-- R115. -/
def CalCause.index : CalCause → Nat
  | .host => 0
  | .packRemoved => 1
  | .packFault => 2
  | .dischargeTimeout => 3
  | .chargeFault => 4

/-- R188. -/
def EnergyLevel.index : EnergyLevel → Nat
  | .normal => 0
  | .low => 1
  | .critical => 2
  | .criticalHard => 3

/-- R140. -/
def BudgetMode.index : BudgetMode → Nat
  | .chargeFirst => 0
  | .performanceFirst => 1

/-- R140. -/
def LimitingTerm.index : LimitingTerm → Nat
  | .none => 0
  | .request => 1
  | .supply => 2
  | .heat => 3
  | .stepMin => 4
  | .overload => 5

/-- R150. -/
def Sensor.index : Sensor → Nat
  | .soc => 0
  | .charger => 1
  | .deck => 2
  | .base => 3

/-- R143. -/
def SensorState.index : SensorState → Nat
  | .none => 0
  | .valid => 1
  | .openFault => 2
  | .shortFault => 3

/-- R151. -/
def FanMode.index : FanMode → Nat
  | .auto => 0
  | .quiet => 1
  | .performance => 2
  | .manual => 3

/-- R84. -/
def slotIndex : Slot → Nat
  | .int => 0
  | .rear => 1

/-- R3. -/
def railIndex : Rail → Nat
  | .mem => 0
  | .io => 1
  | .core => 2
  | .periph => 3
  | .disp => 4

/-- R89. -/
def dynIndex : DynItem → Nat
  | .voltage => 0
  | .current => 1
  | .status => 2
  | .temperature => 3
  | .requestedCurrent => 4
  | .requestedVoltage => 5
  | .rsoc => 6
  | .remainingCapacity => 7
  | .fullCapacity => 8

/-- R86. -/
def idIndex : IdItem → Nat
  | .designCapacity => 0
  | .designVoltage => 1
  | .cellCount => 2
  | .chargeVoltageLimit => 3
  | .maxDischargeCurrent => 4
  | .serial => 5
  | .cycleCount => 6

/-- The kind's number (R168). -/
def Kind.number : Kind → Nat
  | .criticalEnergy => 1
  | .thermalTrip => 2
  | .processorLimit => 3
  | .packAlarm => 4
  | .buttonPress => 5
  | .adapterChanged => 6
  | .lowEnergy => 7
  | .budgetShort => 8
  | .adapterOverload => 9
  | .fanFault => 10
  | .sensorFault => 11
  | .packChanged => 12
  | .sourceChanged => 13
  | .packCommFault => 14
  | .thermalWarn => 15
  | .postureChanged => 16
  | .railEvent => 17
  | .chargeState => 18
  | .calibrationStatus => 19
  | .keyAvailable => 20
  | .hotkey => 21
  | .wake => 22
  | .postureConflict => 23
  | .keyRollover => 24
  | .linkError => 25

/-- The status codes (R184). -/
def Status.code : Status → Byte
  | .ok => 0x00
  | .pending => 0x01
  | .clamped => 0x02
  | .badKind => 0x10
  | .badLen => 0x11
  | .badValue => 0x12
  | .badState => 0x13
  | .busy => 0x14
  | .denied => 0x15
  | .noData => 0x16

/-- The phases of a fault record (R190). -/
def phaseIndex : BusPhase → Nat
  | .address => 0
  | .command => 1
  | .data n => 2 + n.val
  | .check => 11

/-- The item of a fault record: the items of R75 in table order, then ALARM (R190). -/
def faultItemIndex : Option Item → Nat
  | some (.dyn i) => dynIndex i
  | some (.ident i) => 9 + idIndex i
  | none => 16

/-- The supply: ADAPTER, INT, REAR, NONE (R101). -/
def supplyIndex : Supply → Nat
  | .adapter => 0
  | .pack .int => 1
  | .pack .rear => 2
  | .none => 3

/-- The discharge pack: INT, REAR, NONE (R101). -/
def dischargeIndex : Option Slot → Nat
  | some .int => 0
  | some .rear => 1
  | none => 2

/-- The selected pack: NONE, INT, REAR (R106). -/
def selectedIndex : Option Slot → Nat
  | none => 0
  | some .int => 1
  | some .rear => 2

/-- A value with two places, the first listed is 0. -/
def firstOf (isFirst : Bool) : List Byte := [if isFirst then 0 else 1]

/-! ### Sets, first member in bit 0 -/

/-- The number whose bit i is the i-th member. -/
def bitsNat : List Bool → Nat
  | [] => 0
  | b :: bs => (if b then 1 else 0) + 2 * bitsNat bs

/-- The wake set with BUTTON in bit 0 (R187). -/
def wakeSetBits (w : WakeSet) : Nat :=
  bitsNat [true, w.lidOpen, w.keyboard, w.adapterChange, w.packChange, w.timer]

def sensorSetBits (t : PerSensor Bool) : Nat := bitsNat [t.soc, t.charger, t.deck, t.base]
def slotSetBits (t : PerSlot Bool) : Nat := bitsNat [t.int, t.rear]
def suspensionBits (t : Suspension) : Nat := bitsNat [t.host, t.adapterLost, t.platform, t.thermal]
def holdBits (t : HoldCauses) : Nat := bitsNat [t.noAdapter, t.terminate, t.temp, t.data, t.budget]

/-- The members of a wake set byte; BUTTON is always in the set (section 1.7). -/
def wakeSetOf (n : Nat) : WakeSet :=
  { lidOpen := n.testBit 1, keyboard := n.testBit 2, adapterChange := n.testBit 3, packChange := n.testBit 4,
    timer := n.testBit 5 }

/-- One sensor, one slot as a set. -/
def sensorSet (k : Sensor) : PerSensor Bool := PerSensor.set ⟨false, false, false, false⟩ k true
def slotSet (k : Slot) : PerSlot Bool := PerSlot.set ⟨false, false⟩ k true

/-! ### Request bytes -/

def slotOf (b : Byte) : Option Slot :=
  match b.toNat with
  | 0 => some .int
  | 1 => some .rear
  | _ => none

def targetOf (b : Byte) : Option PowerTarget :=
  match b.toNat with
  | 0 => some .sleep
  | 1 => some .off
  | 2 => some .reboot
  | _ => none

def fanModeOf (b : Byte) : Option FanMode :=
  match b.toNat with
  | 0 => some .auto
  | 1 => some .quiet
  | 2 => some .performance
  | 3 => some .manual
  | _ => none

def hotkeyOf (n : Nat) : Option HotkeyAction :=
  match n with
  | 0 => some .none
  | 1 => some .fanBoost
  | 2 => some .fanQuiet
  | 3 => some .backlightStep
  | 4 => some .chargeLimitToggle
  | _ => none

/-- The kind with a number, 1..25. -/
def kindOf (b : Byte) : Option Kind := if b.toNat = 0 then none else allKinds[b.toNat - 1]?

/-- A two-valued field: `some true` for the value listed first, none outside the two. -/
def firstOf? (b : Byte) : Option Bool :=
  match b.toNat with
  | 0 => some true
  | 1 => some false
  | _ => none

/-- A flag byte. -/
def flagOf (b : Byte) : Option Bool :=
  match b.toNat with
  | 0 => some false
  | 1 => some true
  | _ => none

/-- A keymap entry's attribute byte (R192): the hotkey action stands in bits 4..6. -/
def hotkeyBits (attributes : Byte) : Nat := attributes.toNat / 16 % 8

/-- A keymap entry from its three bytes with the hotkey action given. -/
def keyEntryOf (base fn attributes : Byte) (action : HotkeyAction) : KeyEntry :=
  { base := base, fn := fn, modifier := attributes.toNat.testBit 0, fnKey := attributes.toNat.testBit 1,
    wake := attributes.toNat.testBit 2, hotkey := action }

/-! ### Notice payloads (R188) -/

/-- The 16 bytes of the calibration record (R188). -/
def calBytes (c : CalRecord) : List Byte :=
  le8 c.phase.index ++ opt8 (c.slot.map slotIndex) ++ le8 (suspensionBits c.suspension) ++ le32 (c.dischargeMs / 1000)
    ++ le16 (c.restMs / 60000) ++ opt16 c.capacityBefore ++ le8 c.outcome.index ++ opt8 (c.cause.map CalCause.index)
    ++ opt8 (c.endPhase.map fun p => p.index - 1) ++ opt16 c.capacityAfter

/-- The bytes of a payload. -/
def Payload.bytes : Payload → List Byte
  | .empty => []
  | .criticalEnergy level charge => le8 level.index ++ opt8 charge
  | .sensors set => le8 (sensorSetBits set)
  | .processorLimit r => le32 r
  | .packAlarm who flags => le8 (slotSetBits who) ++ le16 flags.toNat
  | .adapterChanged present cls => flag8 present ++ le8 cls.index
  | .fanFault stalled => flag8 stalled.a ++ flag8 stalled.b
  | .slots set => le8 (slotSetBits set)
  | .sourceChanged supply discharge => le8 (supplyIndex supply) ++ le8 (dischargeIndex discharge)
  | .postureChanged posture angle mode => le8 posture.index ++ le16 angle ++ le8 mode.index
  | .railEvent rail phase => firstOf phase.isSome ++ le8 (railIndex rail) ++ opt8 (phase.map FaultPhase.index)
  | .chargeState slot phase hold => le8 (slotIndex slot) ++ le8 phase.index ++ le8 hold.index
  | .calibration record => calBytes record
  | .hotkey action setting high => le8 action.index ++ le8 setting ++ le8 high
  | .wake cause => le8 cause.index

/-- How many bytes a kind's payload takes (R188). -/
def payloadLength : Kind → Nat
  | .criticalEnergy | .adapterChanged | .fanFault | .sourceChanged => 2
  | .thermalTrip | .sensorFault | .thermalWarn | .packChanged | .packCommFault | .wake => 1
  | .processorLimit | .postureChanged => 4
  | .packAlarm | .railEvent | .chargeState | .hotkey => 3
  | .calibrationStatus => 16
  | .buttonPress | .lowEnergy | .budgetShort | .adapterOverload | .keyAvailable | .postureConflict | .keyRollover
  | .linkError => 0

/-- An entry's payload in its kind's layout; a payload never written reads as zeros at full length (R173). -/
def entryPayloadBytes (k : Kind) : Payload → List Byte
  | .empty => List.replicate (payloadLength k) 0x00
  | p => p.bytes

end Sys2Proof.Machine
end

