-- ==== Sys2Proof/Machine/Policy.lean ====
section
/-! DEFINITION. The policy image: one row per field of R192's tables, how a stored value is taken and clamped, the
cold-start load, what a WRITE_POLICY stores, and the values in force that blocks read from the active policy. -/
namespace Sys2Proof.Machine

/-! ### The field table -/

/-- How a field's stored bytes are judged: a number with a range, a signed number (a temperature or a current; 00_scope.md,
Units and number forms) with a range, the backlight idle time
(0, or 5..600; R71), bytes taken as stored, an enumeration of n values or a set of numbers below n, and a keymap
attribute byte, whose hotkey action is enumerated (R192). -/
inductive FieldKind where
  | range (lo hi : Nat)
  | signed (lo hi : Int)
  | idle
  | plain
  | choice (n : Nat)
  | attributes
  deriving DecidableEq, Repr

/-- A field of the policy image: its place, how it is judged, its built-in default as stored bytes would hold it, and
where its value goes in the active policy. -/
structure PolicyField where
  offset : Nat
  size : Nat
  kind : FieldKind
  default : Nat
  put : Policy → Nat → Policy

/-- Two stored bytes as a signed number. -/
def rawInt (raw : Nat) : Int := (BitVec.ofNat 16 raw).toInt

/-- A signed number as two stored bytes. -/
def intRaw (n : Int) : Nat := (BitVec.ofInt 16 n).toNat

/-- Whether an enumerated field's stored value is in its set (R196); numbers always are. -/
def FieldKind.inSet (k : FieldKind) (raw : Nat) : Bool :=
  match k with
  | .choice n => decide (raw < n)
  | .attributes => decide (raw / 16 % 8 ≤ 4)
  | _ => true

/-- A stored value brought into its field's range (R194, R196). F and Pmax are brought between their bounds alone: a value
that is no multiple of 250 is stored as written and rounded down where it is used (R127; DESIGN CHOICE, log entry 41). -/
def FieldKind.clamp (k : FieldKind) (raw : Nat) : Nat :=
  match k with
  | .range lo hi => clampNat lo hi raw
  | .signed lo hi => intRaw (clampInt lo hi (rawInt raw))
  | .idle => if raw = 0 then 0 else clampNat 5 600 raw
  | _ => raw

/-- The value the active policy takes from a stored value. An enumeration outside its set is a free value inside it
(log entry 16). -/
def PolicyField.take (f : PolicyField) (raw : Nat) : Nat :=
  match f.kind with
  | .choice n => if raw < n then raw else Config.strayChoice f.offset raw % n
  | k => k.clamp raw

/-- The built-in default entry of a position (R53). -/
def builtInKey (position : Nat) : KeyEntry :=
  { base := BitVec.ofNat 8 (position + 1), fn := 0, modifier := false, fnKey := false, wake := true, hotkey := .none }

/-- The policy keymap's entry of a position. -/
def policyKey (p : Policy) (position : Nat) : KeyEntry := sparseGet builtInKey p.keymap position

/-- A policy with one keymap entry changed. -/
def putKey (position : Nat) (change : KeyEntry → KeyEntry) (p : Policy) : Policy :=
  { p with keymap := sparseSet builtInKey p.keymap position (change (policyKey p position)) }

/-- The hotkey action that an attribute byte is taken to name. -/
def storedHotkey (offset attributes : Nat) : HotkeyAction :=
  match hotkeyOf (attributes / 16 % 8) with
  | some a => a
  | none => (hotkeyOf (Config.strayChoice offset attributes % 5)).getD .none

/-- The three fields of one keymap entry (R192). -/
def keymapFields (position : Nat) : List PolicyField :=
  let at_ := 0x080 + 3 * position
  [{ offset := at_, size := 1, kind := .plain, default := position + 1,
     put := fun p v => putKey position (fun e => { e with base := BitVec.ofNat 8 v }) p },
   { offset := at_ + 1, size := 1, kind := .plain, default := 0,
     put := fun p v => putKey position (fun e => { e with fn := BitVec.ofNat 8 v }) p },
   { offset := at_ + 2, size := 1, kind := .attributes, default := 4,
     put := fun p v => putKey position (fun e => { e with modifier := v.testBit 0, fnKey := v.testBit 1,
                                                          wake := v.testBit 2, hotkey := storedHotkey (at_ + 2) v }) p }]

/-- The fields of the PROTECTED block (R192), with the ranges of R87, R111, R146, R175, R127 and R150. -/
def protectedFields : List PolicyField :=
  [⟨0x000, 2, .range 3000 4400, 4400, fun p v => { p with perCellMax := v }⟩,
   ⟨0x002, 2, .range 5000 20000, 10800, fun p v => { p with acceptLow := v }⟩,
   ⟨0x004, 2, .range 5000 20000, 15400, fun p v => { p with acceptHigh := v }⟩,
   ⟨0x006, 2, .signed 0 4032, 3500, fun p v => { p with limits := { p.limits with int := v } }⟩,
   ⟨0x008, 2, .signed 0 4032, 3000, fun p v => { p with limits := { p.limits with rear := v } }⟩,
   ⟨0x00A, 2, .signed 300 1250, 1000, fun p v => { p with socTrip := rawInt v }⟩,
   ⟨0x00C, 2, .signed 300 1250, 1050, fun p v => { p with socHard := rawInt v }⟩,
   ⟨0x00E, 2, .signed 300 1250, 900, fun p v => { p with chargerTrip := rawInt v }⟩,
   ⟨0x010, 2, .signed 300 1250, 1000, fun p v => { p with chargerHard := rawInt v }⟩,
   ⟨0x012, 4, .range 1000 120000, 30000, fun p v => { p with critWindow := v }⟩,
   ⟨0x016, 4, .range 1000 120000, 10000, fun p v => { p with tripWindow := v }⟩,
   ⟨0x01A, 4, .range 10000 100000, 45000, fun p v => { p with pMax := v }⟩,
   ⟨0x01E, 2, .range 20000 65000, 60000, fun p v => { p with hMax := v }⟩,
   ⟨0x020, 2, .range 5000 30000, 15000, fun p v => { p with hMin := v }⟩]

/-- An enumeration's value from its index. -/
def restoreOf (v : Nat) : RestorePolicy := if v = 1 then .alwaysOn else if v = 2 then .lastState else .stayOff
def policyFanMode (v : Nat) : FanMode := if v = 1 then .quiet else if v = 2 then .performance else .auto

/-- The power and keyboard fields of the GENERAL block (0x200 to 0x20F). -/
def platformFields : List PolicyField :=
  [⟨0x200, 1, .range 1 100, 20, fun p v => { p with upTimeout := v }⟩,
   ⟨0x201, 1, .choice 3, 0, fun p v => { p with restore := restoreOf v }⟩,
   ⟨0x202, 2, .range 2000 10000, 4000, fun p v => { p with longPress := v }⟩,
   ⟨0x204, 2, .range 0 2000, 100, fun p v => { p with settleDelay := v }⟩,
   ⟨0x206, 1, .range 0 20, 3, fun p v => { p with bootFloor := v }⟩,
   ⟨0x207, 1, .choice 2, 0, fun p v => { p with powerOnAtAdapter := v == 1 }⟩,
   ⟨0x208, 1, .choice 64, 3, fun p v => { p with wakeDefault := wakeSetOf v }⟩,
   ⟨0x209, 1, .range 1 8, 2, fun p v => { p with pressCount := v }⟩,
   ⟨0x20A, 1, .range 1 8, 3, fun p v => { p with releaseCount := v }⟩,
   ⟨0x20B, 1, .range 0 3, 1, fun p v => { p with backlightDefault := v }⟩,
   ⟨0x20C, 2, .idle, 30, fun p v => { p with idleTime := v }⟩,
   ⟨0x20E, 1, .choice 2, 0, fun p v => { p with keyboardDefault := v == 0 }⟩,
   ⟨0x20F, 1, .choice 2, 0, fun p v => { p with routeDefault := if v = 0 then .scanner else .host }⟩]

/-- The charging and budget fields of the GENERAL block (0x210 to 0x229). Where a bound names another field, the start
thresholds' stop − 5 (R113) and the critical threshold's low threshold (R121), the load and the write clamp to the bound
that the other field's own range gives, 95 and 50 (DESIGN CHOICE: R196 stores such relations as written; log entry 52). -/
def chargeFields : List PolicyField :=
  [⟨0x210, 1, .choice 2, 0, fun p v => { p with dischargeRearFirst := v == 0 }⟩,
   ⟨0x211, 1, .choice 2, 0, fun p v => { p with chargeIntFirst := v == 0 }⟩,
   ⟨0x212, 2, .signed 50 500, 150, fun p v => { p with terminationCurrent := v }⟩,
   ⟨0x214, 1, .range 1 24, 8, fun p v => { p with sessionHours := v }⟩,
   ⟨0x215, 1, .range 0 240, 30, fun p v => { p with restMinutes := v }⟩,
   ⟨0x216, 1, .range 50 100, 100, fun p v => { p with stopDefault := v }⟩,
   ⟨0x217, 1, .range 40 95, 95, fun p v => { p with startDefault := v }⟩,
   ⟨0x218, 1, .range 50 100, 80, fun p v => { p with longevityStop := v }⟩,
   ⟨0x219, 1, .range 40 95, 75, fun p v => { p with longevityStart := v }⟩,
   ⟨0x21A, 1, .range 0 50, 10, fun p v => { p with lowThreshold := v }⟩,
   ⟨0x21B, 1, .range 0 50, 4, fun p v => { p with criticalThreshold := v }⟩,
   ⟨0x21C, 2, .range 500 1000, 900, fun p v => { p with derate := v }⟩,
   ⟨0x21E, 2, .range 0 30000, 12000, fun p v => { p with bRun := v }⟩,
   ⟨0x220, 2, .range 0 30000, 1500, fun p v => { p with bIdle := v }⟩,
   ⟨0x222, 2, .range 1000 10000, 5000, fun p v => { p with floorPower := v }⟩,
   ⟨0x224, 2, .range 0 500, 100, fun p v => { p with heatShare := v }⟩,
   ⟨0x226, 1, .choice 2, 0, fun p v => { p with modeDefault := if v = 0 then .chargeFirst else .performanceFirst }⟩,
   ⟨0x227, 1, .choice 2, 1, fun p v => { p with boostDefault := v == 0 }⟩,
   ⟨0x228, 1, .range 0 100, 30, fun p v => { p with boostFloor := v }⟩,
   ⟨0x229, 1, .choice 3, 0, fun p v => { p with fanModeDefault := policyFanMode v }⟩]

/-- The thermal fields of the GENERAL block before the curves (0x22A to 0x245). -/
def thermalFields : List PolicyField :=
  [⟨0x22A, 2, .signed 300 1250, 950, fun p v => { p with socL := rawInt v }⟩,
   ⟨0x22C, 2, .signed 300 1250, 950, fun p v => { p with socWarn := rawInt v }⟩,
   ⟨0x22E, 2, .signed 300 1250, 800, fun p v => { p with chargerL := rawInt v }⟩,
   ⟨0x230, 2, .signed 300 1250, 800, fun p v => { p with chargerWarn := rawInt v }⟩,
   ⟨0x232, 2, .signed 300 1250, 520, fun p v => { p with deckL := { p.deckL with closed := rawInt v } }⟩,
   ⟨0x234, 2, .signed 300 1250, 450, fun p v => { p with deckL := { p.deckL with laptop := rawInt v } }⟩,
   ⟨0x236, 2, .signed 300 1250, 500, fun p v => { p with deckL := { p.deckL with tent := rawInt v } }⟩,
   ⟨0x238, 2, .signed 300 1250, 420, fun p v => { p with deckL := { p.deckL with tablet := rawInt v } }⟩,
   ⟨0x23A, 2, .signed 300 1250, 500, fun p v => { p with baseL := { p.baseL with closed := rawInt v } }⟩,
   ⟨0x23C, 2, .signed 300 1250, 480, fun p v => { p with baseL := { p.baseL with laptop := rawInt v } }⟩,
   ⟨0x23E, 2, .signed 300 1250, 500, fun p v => { p with baseL := { p.baseL with tent := rawInt v } }⟩,
   ⟨0x240, 2, .signed 300 1250, 430, fun p v => { p with baseL := { p.baseL with tablet := rawInt v } }⟩,
   ⟨0x242, 2, .signed 10 300, 100, fun p v => { p with span := rawInt v }⟩,
   ⟨0x244, 1, .range 20 100, 40, fun p v => { p with safeFloor := { p.safeFloor with a := v } }⟩,
   ⟨0x245, 1, .range 20 100, 40, fun p v => { p with safeFloor := { p.safeFloor with b := v } }⟩]

/-- A policy with one fan's curve changed. -/
def putCurve (fan : Fan) (change : Curve → Curve) (p : Policy) : Policy :=
  { p with curves := p.curves.set fan (change (p.curves.get fan)) }

/-- A curve with the temperature or the duty of one place changed. -/
def Curve.withTemp (c : Curve) (i : Nat) (t : Int) : Curve :=
  { c with points := c.points.set i (t, (c.points.getD i (0, 0)).2) }
def Curve.withDuty (c : Curve) (i d : Nat) : Curve :=
  { c with points := c.points.set i ((c.points.getD i (0, 0)).1, d) }

/-- A fan's curve: the point count, then eight places of temperature and duty (R192). A count above 8 is brought to 8;
a count of 0 stays, since R152 settles a curve with no points at use (log entry 18). -/
def curveFields (fan : Fan) (at_ : Nat) (dflt : Curve) : List PolicyField :=
  { offset := at_, size := 1, kind := .range 0 8, default := dflt.count,
    put := fun p v => putCurve fan (fun c => { c with count := v }) p } ::
  (List.range 8).flatMap fun i =>
    [{ offset := at_ + 1 + 3 * i, size := 2, kind := .plain, default := intRaw (dflt.points.getD i (0, 0)).1,
       put := fun p v => putCurve fan (fun c => c.withTemp i (rawInt v)) p },
     { offset := at_ + 3 + 3 * i, size := 1, kind := .range 0 100, default := (dflt.points.getD i (0, 0)).2,
       put := fun p v => putCurve fan (fun c => c.withDuty i v) p }]

/-- The fields of the GENERAL block (R192). -/
def generalFields : List PolicyField :=
  (List.range 128).flatMap keymapFields ++ platformFields ++ chargeFields ++ thermalFields
    ++ curveFields .a 0x246 defaultCurveA ++ curveFields .b 0x25F defaultCurveB

/-! ### The two blocks (R192, R194) -/

/-- A policy block. -/
inductive Block where
  | prot
  | general
  deriving DecidableEq, Repr

/-- Where a block starts, how many bytes its check covers, and its fields. -/
def Block.base : Block → Nat
  | .prot => 0x000
  | .general => 0x080
def Block.covered : Block → Nat
  | .prot => 126
  | .general => 894
def Block.fields : Block → List PolicyField
  | .prot => protectedFields
  | .general => generalFields

/-- Where a block's two check bytes stand. -/
def Block.checkAt (b : Block) : Nat := b.base + b.covered

/-- The check computed over a stored block (R194). -/
def blockCheck (image : Memory) (b : Block) : Nat := crc16 (image.readBytes b.base b.covered)

/-- Whether a stored block passes its check (R194). -/
def blockValid (image : Memory) (b : Block) : Bool :=
  fromLe (image.readBytes b.checkAt 2) == blockCheck image b

/-- The stored image with a block's check recomputed. -/
def withCheck (image : Memory) (b : Block) : Memory := image.writeBytes b.checkAt (le16 (blockCheck image b))

/-- A field's stored value. -/
def PolicyField.stored (f : PolicyField) (image : Memory) : Nat := fromLe (image.readBytes f.offset f.size)

/-- A value as the bytes of a field. -/
def PolicyField.encode (f : PolicyField) (v : Nat) : List Byte := (le32 v).take f.size

/-- The active policy with a block's fields loaded: from storage when the block is valid, else the built-in defaults
(R194). -/
def loadBlock (image : Memory) (b : Block) (valid : Bool) (p : Policy) : Policy :=
  b.fields.foldl (fun p f => f.put p (if valid then f.take (f.stored image) else f.default)) p

/-- The active policy at cold start (R194). -/
def loadPolicy (image : Memory) (protectedValid generalValid : Bool) : Policy :=
  loadBlock image .general generalValid (loadBlock image .prot protectedValid Policy.builtIn)

/-! ### Writing (R196) -/

/-- The block that a write of `n` bytes at an offset lies in, if in one. -/
def writeBlock (offset n : Nat) : Option Block :=
  if offset + n ≤ 0x080 then some .prot
  else if 0x080 ≤ offset ∧ offset + n ≤ 0x400 then some .general
  else none

/-- The fields a write touches. -/
def touchedFields (b : Block) (offset n : Nat) : List PolicyField :=
  b.fields.filter fun f => decide (f.offset < offset + n ∧ offset < f.offset + f.size)

/-- The image with the data bytes written, those on the check bytes left out. -/
def writeData (b : Block) (image : Memory) (offset : Nat) (data : List Byte) : Memory :=
  image.writeBytes offset (data.take (b.checkAt - offset))

/-- Whether every enumerated field touched would stand inside its set (R196, test 4). -/
def writeInSets (b : Block) (image : Memory) (offset : Nat) (data : List Byte) : Bool :=
  let after := writeData b image offset data
  (touchedFields b offset data.length).all fun f => f.kind.inSet (f.stored after)

/-- Whether a touched field is clamped (R196). -/
def writeClamps (b : Block) (image : Memory) (offset : Nat) (data : List Byte) : Bool :=
  let after := writeData b image offset data
  (touchedFields b offset data.length).any fun f => f.kind.clamp (f.stored after) != f.stored after

/-- The stored image after a write completes: the data bytes, each touched field clamped, and the check recomputed
over the whole block (R196). -/
def writeImage (b : Block) (image : Memory) (offset : Nat) (data : List Byte) : Memory :=
  let after := writeData b image offset data
  withCheck
    ((touchedFields b offset data.length).foldl
      (fun m f => m.writeBytes f.offset (f.encode (f.kind.clamp (f.stored after)))) after) b

/-- The active policy after a write completes: every touched field takes its stored value (R196). -/
def writeActive (b : Block) (image : Memory) (offset n : Nat) (p : Policy) : Policy :=
  (touchedFields b offset n).foldl (fun p f => f.put p (f.take (f.stored image))) p

/-- Programming time: 5 ms for each 16 data bytes or part of 16 (R196). -/
def programmingMs (n : Nat) : Nat := 5 * ((n + 15) / 16)

/-- A block left torn by a loss of power: free bytes, and a check that does not match (R197; log entry 15). -/
def tornImage (free : Nat) (b : Block) (image : Memory) : Memory :=
  let torn := image.writeBytes b.base ((List.range b.covered).map fun i => Config.tornByte free (b.base + i))
  torn.writeBytes b.checkAt (le16 ((blockCheck torn b + 1 + Config.tornCheck free % 65535) % 65536))

/-! ### Values in force

Each block takes a policy value clamped to its range, so the bounds hold whatever the active policy holds. -/

/-- The processor floor F and maximum Pmax, rounded down to a multiple of 250 (R127). -/
def processorFloor (p : Policy) : Nat := clampNat 1000 10000 p.floorPower / 250 * 250
def processorMax (p : Policy) : Nat := clampNat 10000 100000 p.pMax / 250 * 250

/-- The rest of R127's values. -/
def derateOf (p : Policy) : Nat := clampNat 500 1000 p.derate
def bRunOf (p : Policy) : Nat := clampNat 0 30000 p.bRun
def bIdleOf (p : Policy) : Nat := clampNat 0 30000 p.bIdle
def heatShareOf (p : Policy) : Nat := clampNat 0 500 p.heatShare
def boostFloorOf (p : Policy) : Nat := clampNat 0 100 p.boostFloor

/-- H_max, and H_min taken as no higher than H_max (R150). -/
def hMaxOf (p : Policy) : Nat := clampNat 20000 65000 p.hMax
def hMinOf (p : Policy) : Nat := min (clampNat 5000 30000 p.hMin) (hMaxOf p)
def spanOf (p : Policy) : Int := clampInt 10 300 p.span

/-- A skin sensor's L for a posture (R146). -/
def skinLimit (t : PerPosture Int) (q : Posture) : Int := clampInt 300 1250 (t.get q)

/-- The limit L of a sensor in a posture (R146). -/
def limitOf (p : Policy) (q : Posture) : Sensor → Int
  | .soc => clampInt 300 1250 p.socL
  | .charger => clampInt 300 1250 p.chargerL
  | .deck => skinLimit p.deckL q
  | .base => skinLimit p.baseL q

/-- The WARN threshold of a sensor; for a skin sensor it is L (R146). -/
def warnOf (p : Policy) (q : Posture) : Sensor → Int
  | .soc => clampInt 300 1250 p.socWarn
  | .charger => clampInt 300 1250 p.chargerWarn
  | .deck => skinLimit p.deckL q
  | .base => skinLimit p.baseL q

/-- The TRIP threshold, no lower than WARN; the skin sensors have none (R146). -/
def tripOf (p : Policy) : Sensor → Option Int
  | .soc => some (max (clampInt 300 1250 p.socTrip) (clampInt 300 1250 p.socWarn))
  | .charger => some (max (clampInt 300 1250 p.chargerTrip) (clampInt 300 1250 p.chargerWarn))
  | _ => none

/-- The HARD threshold, no lower than TRIP (R146). -/
def hardOf (p : Policy) : Sensor → Option Int
  | .soc => (tripOf p .soc).map (max (clampInt 300 1250 p.socHard))
  | .charger => (tripOf p .charger).map (max (clampInt 300 1250 p.chargerHard))
  | _ => none

/-- A fan's safe floor (R155). -/
def safeFloorOf (p : Policy) (fan : Fan) : Nat := clampNat 20 100 (p.safeFloor.get fan)

/-- Whether the points used ascend strictly in temperature. -/
def ascends : List (Int × Nat) → Bool
  | a :: b :: rest => decide (a.1 < b.1) && ascends (b :: rest)
  | _ => true

/-- A fan's default curve. -/
def defaultCurve : Fan → Curve
  | .a => defaultCurveA
  | .b => defaultCurveB

/-- The points of a fan's curve in force, the default curve's in place of a curve with no points or one that does not
ascend; duties above 100 are taken as 100 (R152). -/
def curvePoints (p : Policy) (fan : Fan) : List (Int × Nat) :=
  let points := (p.curves.get fan).points.take (p.curves.get fan).count
  (if points.isEmpty || !ascends points then (defaultCurve fan).points.take (defaultCurve fan).count else points).map
    fun pt => (pt.1, min pt.2 100)

/-- The pack limits of R87, R111 and R112. -/
def perCellMaxOf (p : Policy) : Nat := clampNat 3000 4400 p.perCellMax
def acceptLowOf (p : Policy) : Nat := clampNat 5000 20000 p.acceptLow
def acceptHighOf (p : Policy) : Nat := clampNat 5000 20000 p.acceptHigh
def packLimitOf (p : Policy) (k : Slot) : Nat := clampNat 0 4032 (p.limits.get k)

/-- The sequencer's and the scanner's values. -/
def upTimeoutOf (p : Policy) : Nat := clampNat 1 100 p.upTimeout
def longPressOf (p : Policy) : Nat := clampNat 2000 10000 p.longPress
def settleDelayOf (p : Policy) : Nat := clampNat 0 2000 p.settleDelay
def bootFloorOf (p : Policy) : Nat := clampNat 0 20 p.bootFloor
def pressCountOf (p : Policy) : Nat := clampNat 1 8 p.pressCount
def releaseCountOf (p : Policy) : Nat := clampNat 1 8 p.releaseCount
def idleTimeOf (p : Policy) : Nat := if p.idleTime = 0 then 0 else clampNat 5 600 p.idleTime

/-- The charge controller's values. -/
def terminationOf (p : Policy) : Nat := clampNat 50 500 p.terminationCurrent
def sessionLimitMs (p : Policy) : Nat := clampNat 1 24 p.sessionHours * 3600000
def restMs (p : Policy) : Nat := clampNat 0 240 p.restMinutes * 60000
def lowOf (p : Policy) : Nat := clampNat 0 50 p.lowThreshold
def criticalOf (p : Policy) : Nat := min p.criticalThreshold (lowOf p)
def windowLength (p : Policy) : EscalationWindow → Nat
  | .criticalEnergy => clampNat 1000 120000 p.critWindow
  | .thermalTrip => clampNat 1000 120000 p.tripWindow

/-- Charge limits: the stop threshold clamped to 50..100, then the start threshold to 40..(stop − 5) (R113). -/
def clampLimits (stop start : Nat) : Nat × Nat :=
  (clampNat 50 100 stop, clampNat 40 (clampNat 50 100 stop - 5) start)

end Sys2Proof.Machine
end

