-- ==== Sys2Proof/Machine/Notice.lean ====
section
/-! DEFINITION. The notice unit's operations: latches, the end of a condition, the ALERT condition, the choice of FETCH_NOTICE
and the escalation windows. -/
namespace Sys2Proof.Machine

/-- The OCCURRENCE kinds; the others are STATE kinds (R168). -/
def Kind.occurrence : Kind → Bool
  | .packAlarm | .buttonPress | .lowEnergy | .adapterOverload | .sensorFault | .packChanged | .packCommFault
  | .thermalWarn | .railEvent | .hotkey | .wake | .postureConflict | .keyRollover | .linkError => true
  | .criticalEnergy | .thermalTrip | .processorLimit | .adapterChanged | .budgetShort | .fanFault | .sourceChanged
  | .postureChanged | .chargeState | .calibrationStatus | .keyAvailable => false

/-- The two kinds whose level is 7 and whose mask is clear in every state (R169). -/
def Kind.fixed : Kind → Bool
  | .criticalEnergy | .thermalTrip => true
  | _ => false

/-- The kept payload when a pending OCCURRENCE entry is latched again: the union for set payloads, the first payload
otherwise (R166, R168). -/
def Payload.join : Payload → Payload → Payload
  | .sensors a, .sensors b =>
    .sensors ⟨a.soc || b.soc, a.charger || b.charger, a.deck || b.deck, a.base || b.base⟩
  | .slots a, .slots b => .slots ⟨a.int || b.int, a.rear || b.rear⟩
  | .packAlarm a f, .packAlarm b g => .packAlarm ⟨a.int || b.int, a.rear || b.rear⟩ (f ||| g)
  | first, _ => first

/-- A latch applied to an entry, by its class (R166). -/
def latchEntry (k : Kind) (p : Payload) (time : Nat) (e : EventEntry) : EventEntry :=
  if k.occurrence then
    if e.pending then { e with count := min 15 (e.count + 1), payload := e.payload.join p }
    else { e with pending := true, count := 1, payload := p, latchTime := time }
  else { e with pending := true, count := 0, payload := p, latchTime := time }

/-- The entry of a kind. -/
def State.entry (s : State) (k : Kind) : EventEntry := s.notice.table.get k

/-- The state with a kind's entry changed. -/
def State.mapEntry (s : State) (k : Kind) (f : EventEntry → EventEntry) : State :=
  { s with notice := { s.notice with table := s.notice.table.set k (f (s.entry k)) } }

/-- A block latches an event (R166). -/
def latch (k : Kind) (p : Payload) (s : State) : State := s.mapEntry k (latchEntry k p (time32 s.now))

/-- The end of an auto-clearing condition clears the pending flag and keeps payload and latch time (R167). -/
def endCondition (k : Kind) (s : State) : State := s.mapEntry k fun e => { e with pending := false }

/-- Whether an entry takes part in a fetch. -/
def EventEntry.fetchable (e : EventEntry) : Bool := e.pending && !e.mask

/-- The condition of ALERT: RUN and a pending, unmasked entry above the attention floor (R170). -/
def alertCondition (s : State) : Bool :=
  decide (s.pwr.state = .run) && allKinds.any fun k => (s.entry k).fetchable && decide (s.notice.floor < (s.entry k).level)

/-- The more urgent of the choice so far and the next kind in source order (R172). -/
def moreUrgent (s : State) (best : Option Kind) (k : Kind) : Option Kind :=
  if (s.entry k).fetchable then
    match best with
    | none => some k
    | some b => if (s.entry b).level < (s.entry k).level then some k else some b
  else best

/-- The entry FETCH_NOTICE returns: the highest level, and the first in source order among equals (R172). -/
def fetchChoice (s : State) : Option Kind := allKinds.foldl (moreUrgent s) none

/-- How many entries are pending and unmasked. -/
def fetchableCount (s : State) : Nat := (allKinds.filter fun k => (s.entry k).fetchable).length

/-! ### Conditions of the escalation windows (R175) -/

/-- The set of tripped sensors (R148). -/
def trippedSet (s : State) : PerSensor Bool :=
  ⟨s.thr.sensors.soc.trip, s.thr.sensors.charger.trip, s.thr.sensors.deck.trip, s.thr.sensors.base.trip⟩

/-- TRIP and HARD (R148, R149). -/
def tripHolds (s : State) : Bool := allSensors.any fun k => (s.thr.sensors.get k).trip
def hardHolds (s : State) : Bool := allSensors.any fun k => (s.thr.sensors.get k).hard

/-- The condition of the CRITICAL_ENERGY window. -/
def criticalHolds (s : State) : Bool := decide (s.chg.energy = .critical ∨ s.chg.energy = .criticalHard)

/-- The condition of a window. -/
def windowCondition (w : EscalationWindow) (s : State) : Bool :=
  match w with
  | .criticalEnergy => criticalHolds s
  | .thermalTrip => tripHolds s

/-- A window's remaining time, none while STOPPED. -/
def windowLeft (w : EscalationWindow) (s : State) : Option Nat :=
  match w with
  | .criticalEnergy => s.notice.critWindow
  | .thermalTrip => s.notice.tripWindow

/-- The state with a window set. -/
def setWindow (w : EscalationWindow) (left : Option Nat) (s : State) : State :=
  match w with
  | .criticalEnergy => { s with notice := { s.notice with critWindow := left } }
  | .thermalTrip => { s with notice := { s.notice with tripWindow := left } }

/-- A window starts with its full length in RUN; one already running keeps its remaining time (R175). -/
def startWindow (w : EscalationWindow) (s : State) : State :=
  if s.pwr.state = .run ∧ windowLeft w s = none then setWindow w (some (windowLength s.store.policy w)) s else s

/-- Both windows stop (R176). -/
def stopWindows (s : State) : State := { s with notice := { s.notice with critWindow := none, tripWindow := none } }

/-- Arrival in RUN starts the window of each condition that holds (R175). -/
def startWindowsAtRun (s : State) : State :=
  let t := if criticalHolds s then startWindow .criticalEnergy s else s
  if tripHolds s then startWindow .thermalTrip t else t

end Sys2Proof.Machine
end

