-- ==== Sys2Proof/Machine/Link.lean ====
section
/-! DEFINITION. The link controller's operations: the response slot, a read transaction, requests taken while none is in
processing, and processing. -/
namespace Sys2Proof.Machine

/-- The state with a response frame in the slot; RKIND is KIND | 0x80 (R182). -/
def respond (kind tag : Byte) (status : Status) (payload : List Byte) (s : State) : State :=
  { s with link := { s.link with slot := { rkind := kind ||| 0x80, tag := tag, status := status, payload := payload } } }

/-- A refused response carries no payload (R184). -/
def refuse (kind tag : Byte) (status : Status) (s : State) : State := respond kind tag status [] s

/-- A request is taken unless one is in processing: then its write is not acknowledged at the address and nothing
changes (R183). -/
def request (s : State) (answer : State → State) : Host.Outcome State Fault Refusal :=
  if s.link.processing.isSome then .next s else .next (answer s)

/-- A request enters processing: the slot reads PENDING (R183). -/
def enterProcessing (kind tag : Byte) (p : Processing) (s : State) : State :=
  let t := respond kind tag .pending [] s
  { t with link := { t.link with processing := some p } }

/-- The owning block ends the request: its final response stands in the slot and writes are acknowledged again (R183). -/
def finishProcessing (kind tag : Byte) (status : Status) (payload : List Byte) (s : State) : State :=
  let t := respond kind tag status payload s
  { t with link := { t.link with processing := none } }

/-- The most bytes that LEN gives the PAYLOAD of a frame (R181, R182). -/
def maxPayload : Nat := 56

/-- The PAYLOAD of the response frame, at most 56 bytes (R182). The one answer that has more, GET_THERMAL's of 82 (R164), is sent up
to its 56th byte (DESIGN CHOICE: the spec has no rule for an answer that the frame cannot hold; log entry 9). -/
def Response.sent (r : Response) : List Byte := r.payload.take maxPayload

/-- The bytes of the response frame: header, with LEN the number of payload bytes sent, and PAYLOAD (R182). -/
def Response.frame (r : Response) : List Byte :=
  [r.rkind, r.tag, r.status.code, BitVec.ofNat 8 r.sent.length] ++ r.sent

/-- A read transaction of `n` bytes: the frame from its first byte, then 0xFF (R180). It changes nothing. -/
def linkRead (s : State) (n : Nat) : List Byte :=
  (s.link.slot.frame ++ List.replicate n 0xFF).take n

/-- OK, or CLAMPED where a value was brought into range (R184). -/
def okOrClamped (clamped : Bool) : Status := if clamped then .clamped else .ok

end Sys2Proof.Machine
end

