-- ==== Sys2Proof/Machine/PackTable.lean ====
section
/-! DEFINITION. The pack table as other blocks read it, the periods in force, validity and the transaction queue. -/
namespace Sys2Proof.Machine

/-- The record of a slot. -/
def State.pack (s : State) (k : Slot) : PackSlot := s.packs.get k

/-- The state with a slot's record changed. -/
def State.mapPack (s : State) (k : Slot) (f : PackSlot → PackSlot) : State :=
  { s with packs := s.packs.set k (f (s.pack k)) }

/-- A slot's poll entry. -/
def State.item (s : State) (k : Slot) (i : DynItem) : PollEntry := (s.pack k).items.get i

/-- An item's last value as an unsigned number. -/
def lastValue (s : State) (k : Slot) (i : DynItem) : Option Nat := (s.item k i).value.map BitVec.toNat

/-- An item's value when it is present and valid (R91). -/
def validValue (s : State) (k : Slot) (i : DynItem) : Option Nat :=
  if (s.item k i).valid then lastValue s k i else none

/-- A signed item's value when valid: CURRENT in mA, TEMPERATURE in 0.1 °C (R75). -/
def validInt (s : State) (k : Slot) (i : DynItem) : Option Int :=
  if (s.item k i).valid then (s.item k i).value.map BitVec.toInt else none

/-- CELL_COUNT from the identity, 0 while the identity is absent. -/
def cells (s : State) (k : Slot) : Nat := ((s.pack k).identity.map Identity.cellCount).getD 0

/-- Whether a slot is ACTIVE. -/
def isActive (s : State) (k : Slot) : Bool := decide ((s.pack k).state = .active)

/-- The phases in which a selected pack is polled fast (R89). -/
def ChargePhase.session : ChargePhase → Bool
  | .qualify | .precharge | .constantCurrent | .constantVoltage => true
  | _ => false

/-- A slot's VOLTAGE, CURRENT and STATUS have the short period: in RUN, or with the slot selected and its session running
(R89). -/
def polledFast (s : State) (k : Slot) : Bool :=
  decide (s.pwr.state = .run ∨ (s.chg.selected = some k ∧ (s.chg.packs.get k).phase.session = true))

/-- The period in force of an item in ms (R89). RC and RV keep 5,000 ms while not polled (R91). -/
def period (s : State) (k : Slot) (i : DynItem) : Nat :=
  match i with
  | .voltage | .current | .status => if polledFast s k then 1000 else 10000
  | .temperature | .requestedCurrent | .requestedVoltage => 5000
  | .rsoc | .remainingCapacity | .fullCapacity => 10000

/-- Whether the schedule polls an item: RC and RV only while the pack is selected (R89). -/
def polled (s : State) (k : Slot) (i : DynItem) : Bool :=
  match i with
  | .requestedCurrent | .requestedVoltage => decide (s.chg.selected = some k ∧ (s.pack k).state ≠ .rejected)
  | _ => true

/-- Whether a slot's schedule runs (R89). -/
def scheduleRuns (p : PackSlot) : Bool :=
  match p.state with
  | .active | .rejected => true
  | .commLost => decide (p.previous = some .active ∨ p.previous = some .rejected)
  | _ => false

/-! ### The transaction queue (R92) -/

/-- Position of an item within its slot's ties. -/
def itemRank : Item → Nat
  | .dyn i => dynIndex i
  | .ident i => 9 + idIndex i

/-- Service order: due time, then INT before REAR, then the schedule's list (R92). -/
def servedBefore (a b : QueueEntry) : Bool :=
  decide (a.due < b.due) || (decide (a.due = b.due) &&
    (decide (slotIndex a.slot < slotIndex b.slot) ||
      (decide (slotIndex a.slot = slotIndex b.slot) && decide (itemRank a.item < itemRank b.item))))

/-- A queue with an entry put in its place. -/
def insertEntry (e : QueueEntry) : List QueueEntry → List QueueEntry
  | [] => [e]
  | x :: xs => if servedBefore e x then e :: x :: xs else x :: insertEntry e xs

/-- Whether an item waits, is on the bus, or is served by the fresh read (R90, R95). -/
def inService (b : Bus) (k : Slot) (i : Item) : Bool :=
  (b.queue.any fun e => decide (e.slot = k ∧ e.item = i)) ||
  (match b.current with
    | some r => decide (r.slot = k ∧ r.item = i ∧ r.discard = false)
    | none => false) ||
  (match b.fresh with
    | some f => decide (f.slot = k) && (f.left.any fun d => decide (Item.dyn d = i))
    | none => false)

/-- An item enters the queue with its due time; an item appears once at most (R90, R92). -/
def enqueue (k : Slot) (i : Item) (due : Nat) (s : State) : State :=
  if inService s.bus k i then s else { s with bus := { s.bus with queue := insertEntry ⟨k, i, due⟩ s.bus.queue } }

/-- Entries removed from the queue. -/
def dequeueWhere (drop : QueueEntry → Bool) (s : State) : State :=
  { s with bus := { s.bus with queue := s.bus.queue.filter fun e => !drop e } }

/-- The next due time of an item that is not in service (R90). -/
def nextDue (s : State) (k : Slot) (i : DynItem) : Nat := (s.item k i).lastEnd + period s k i

/-! ### A change of the period in force (R90) -/

/-- A waiting entry of the item has the recomputed due time: it keeps a place in the queue at that time when the time has
passed, and leaves the queue when it lies ahead (DESIGN CHOICE: R90 recomputes the due time and does not say what becomes
of an entry already queued; log entry 45). -/
def redateItem (k : Slot) (i : DynItem) (s : State) : State :=
  if s.bus.queue.any fun e => decide (e.slot = k ∧ e.item = .dyn i) then
    let t := dequeueWhere (fun e => decide (e.slot = k ∧ e.item = .dyn i)) s
    if nextDue s k i ≤ s.now then enqueue k (.dyn i) (nextDue s k i) t else t
  else s

/-- The items whose period depends on the platform state and the session (R89). -/
def pacedItems : List DynItem := [.voltage, .current, .status]

/-- A slot's waiting entries are dated again when its period in force has changed. -/
def redateSlot (s : State) (k : Slot) : State :=
  if s.bus.fast.get k = polledFast s k then s
  else pacedItems.foldl (fun t i => redateItem k i t) { s with bus := { s.bus with fast := s.bus.fast.set k (polledFast s k) } }

/-- Both slots' waiting entries. -/
def redateQueue (s : State) : State := allSlots.foldl redateSlot s

/-- An item enters the queue when its schedule runs, it is polled, and its next due time has come (R90). An item that a
change of its period makes due at once is due now (DESIGN CHOICE, log entry 45). -/
def enqueueIfDue (k : Slot) (i : DynItem) (s : State) : State :=
  if scheduleRuns (s.pack k) && polled s k i && decide (nextDue s k i ≤ s.now) then enqueue k (.dyn i) s.now s else s

/-- Every item of both slots whose time has come enters the queue. -/
def enqueueDue (s : State) : State :=
  allSlots.foldl (fun s k => allDynItems.foldl (fun s i => enqueueIfDue k i s) s) s

/-- An item's valid flag as its age and the period in force give it (R91). -/
def freshlyValid (s : State) (k : Slot) (i : DynItem) (e : PollEntry) : PollEntry :=
  { e with valid := e.value.isSome && decide (e.age ≤ 3 * period s k i) }

/-- Every valid flag judged against the periods in force (R91). -/
def judgeValidity (s : State) : State :=
  { s with packs := s.packs.map fun k p => { p with items := p.items.map fun i e => freshlyValid s k i e } }

/-- The effects of a change of periods: due times of waiting entries, valid flags, and items that are due at once (R90,
R91). -/
def refreshPeriods (s : State) : State := enqueueDue (judgeValidity (redateQueue s))

/-- Every valid flag of a slot, for telling whether one changed. -/
def validFlags (s : State) (k : Slot) : List Bool := allDynItems.map fun i => (s.item k i).valid

end Sys2Proof.Machine
end

