-- ==== Sys2Proof/Machine/Charge.lean ====
section
/-! DEFINITION. The charge controller's operations: source choice, charge voltage and request, hold causes, the session, the
selected pack, set-points, calibration, and the settling that follows every change of an input. -/
namespace Sys2Proof.Machine

/-- The state with the charge controller changed. -/
def State.mapChg (s : State) (f : Charger → Charger) : State := { s with chg := f s.chg }

/-- class_W in W (R98). -/
def classWatts (a : Adapter) : Nat :=
  if !a.present then 0
  else match a.cls with
    | .none => 0
    | .pending | .w45 | .unknown45 => 45
    | .w65 => 65
    | .w90 => 90
    | .w135 => 135

/-! ### Supply and discharge pack (R101, R102) -/

/-- The discharge order (R101). -/
def dischargeOrder (p : Policy) : List Slot := if p.dischargeRearFirst then [.rear, .int] else [.int, .rear]

/-- The first pass: ACTIVE, RSOC valid and above 5, no TERMINATE_DISCHARGE. -/
def firstPass (s : State) (k : Slot) : Bool :=
  isActive s k && !shows (s.pack k).status terminateDischarge &&
    (match validValue s k .rsoc with
      | some r => decide (5 < r)
      | none => false)

/-- The second pass admits every ACTIVE slot without TERMINATE_DISCHARGE. -/
def secondPass (s : State) (k : Slot) : Bool := isActive s k && !shows (s.pack k).status terminateDischarge

/-- The last RSOC, 0 when absent (R101). -/
def lastRsoc (s : State) (k : Slot) : Nat := (lastValue s k .rsoc).getD 0

/-- The better of the second pass so far and the next slot of the order: the higher RSOC, the earlier among equals. -/
def higherRsoc (s : State) (best : Option Slot) (k : Slot) : Option Slot :=
  if secondPass s k then
    match best with
    | none => some k
    | some b => if lastRsoc s b < lastRsoc s k then some k else some b
  else best

/-- The discharge pack that the two passes choose (R101). -/
def orderedChoice (s : State) : Option Slot :=
  match (dischargeOrder s.store.policy).find? (firstPass s) with
  | some k => some k
  | none => (dischargeOrder s.store.policy).foldl (higherRsoc s) none

/-- The calibrating pack while a removal with the bypass ON has left the platform on it (R119): as long as the adapter is
away, the DISCHARGE stands suspended and the pack can carry the platform (DESIGN CHOICE: R119 gives no end; log entry
37). -/
def carryingPack (s : State) : Option Slot :=
  if s.chg.calCarries && !s.chg.adapter.present && decide (s.chg.cal.phase = .discharge) then
    s.chg.cal.slot.filter (secondPass s)
  else none

/-- The discharge pack: the calibrating pack that carries the platform, else the choice of the two passes (R101, R119). -/
def dischargeChoice (s : State) : Option Slot :=
  match carryingPack s with
  | some k => some k
  | none => orderedChoice s

/-- The supply: the calibrating pack while the bypass is ON, else the adapter while present, else the discharge pack
(R101). -/
def supplyChoice (s : State) : Supply :=
  if s.chg.adapter.bypass then
    match s.chg.cal.slot with
    | some k => .pack k
    | none => .none
  else if s.chg.adapter.present then .adapter
  else match dischargeChoice s with
    | some k => .pack k
    | none => .none

/-- The source choice, with SOURCE_CHANGED latched when a field changes (R102). -/
def chooseSource (s : State) : State :=
  if s.chg.supply = supplyChoice s ∧ s.chg.discharge = dischargeChoice s then s
  else latch .sourceChanged (.sourceChanged (supplyChoice s) (dischargeChoice s))
    (s.mapChg fun c => { c with supply := supplyChoice s, discharge := dischargeChoice s })

/-! ### Charge voltage and charge request (R111, R112) -/

/-- The charge voltage of a pack: its last REQUESTED_VOLTAGE under the per-cell maximum, lowered in the WARM band
(R112). -/
def chargeVoltageOf (s : State) (k : Slot) : Option Nat :=
  (lastValue s k .requestedVoltage).map fun v =>
    min v (perCellMaxOf s.store.policy * cells s k) -
      (if (s.chg.packs.get k).band = .warm then 100 * cells s k else 0)

/-- The window cap for a requested current (R112). The two holds have none: they act through the cause TEMP. -/
def windowCap (b : Band) (requested : Nat) : Nat :=
  match b with
  | .cold => requested * 50 / 100
  | .normal | .warm | .coldHold | .hotHold => requested

/-- The smallest of R111's four values for a pack. A REQUESTED_CURRENT word of 0x8000 or more counts as an unsigned number
(DESIGN CHOICE: the item table of R75 marks it unsigned, the scope's conventions call currents signed; log entry 56). -/
def requestTerms (s : State) (k : Slot) : Nat :=
  let rc := (lastValue s k .requestedCurrent).getD 0
  min (min rc (windowCap (s.chg.packs.get k).band rc)) (min (packLimitOf s.store.policy k) 4032)

/-- The charge request I_req (R111). -/
def requestOf (s : State) : Nat :=
  match s.chg.selected with
  | none => 0
  | some k =>
    if s.chg.switchOver.isSome then 0
    else match (s.chg.packs.get k).phase with
      | .constantCurrent | .constantVoltage => requestTerms s k
      | .precharge => min 128 (requestTerms s k)
      | _ => 0

/-- The applied current set-point: the smaller of I_chg and I_req rounded down to a step, 0 below 128 (R103). -/
def appliedCurrent (s : State) : Nat :=
  let i := min s.bud.iChg (requestOf s / 64 * 64)
  if i < 128 then 0 else i

/-- The voltage set-point for a charge voltage, rounded down to a step; below 4,000 mV it is a free value of the
set-point's range (log entry 17). -/
def voltageStep (v : Nat) : Nat := if v < 4000 then 4000 + 16 * (Config.strayVoltage v % 851) else v / 16 * 16

/-! ### Hold causes (R110) -/

/-- The temperature window holds a pack. -/
def bandHolds (b : Band) : Bool := decide (b = .coldHold ∨ b = .hotHold)

/-- The DATA cause's condition (R110). -/
def dataMissing (s : State) (k : Slot) : Bool :=
  ([DynItem.voltage, .current, .status, .temperature, .rsoc, .requestedCurrent, .requestedVoltage].any
    fun i => !(s.item k i).valid) ||
  decide (validValue s k .voltage = some 0) ||
  (match chargeVoltageOf s k with
    | some v => decide (v < 4000)
    | none => false)

/-- The causes whose conditions hold for the selected pack; BUDGET is kept as R111 set it (R110). -/
def holdCausesOf (s : State) (k : Slot) : HoldCauses :=
  { noAdapter := !s.chg.adapter.present, terminate := shows (s.pack k).status terminateCharge,
    temp := bandHolds (s.chg.packs.get k).band || hardHolds s, data := dataMissing s k, budget := s.chg.hold.budget }

/-- Whether the set of causes is empty. -/
def HoldCauses.isClear (h : HoldCauses) : Bool := !(h.noAdapter || h.terminate || h.temp || h.data || h.budget)

/-- The first cause present in the reporting order (R106). -/
def HoldCauses.first (h : HoldCauses) : HoldCause :=
  if h.noAdapter then .noAdapter else if h.terminate then .terminate else if h.temp then .temp
  else if h.data then .data else if h.budget then .budget else .none

/-- The reported hold cause of a slot: NONE outside HOLD (R106). -/
def reportedHold (s : State) (k : Slot) : HoldCause :=
  if s.chg.selected = some k ∧ (s.chg.packs.get k).phase = .hold then s.chg.hold.first else .none

/-! ### Phases (R106) -/

/-- A change made to a pack's charge state, with CHARGE_STATE latched when its phase or reported hold cause changes
(R106). -/
def changePack (k : Slot) (f : State → State) (s : State) : State :=
  let t := f s
  if (t.chg.packs.get k).phase = (s.chg.packs.get k).phase ∧ reportedHold t k = reportedHold s k then t
  else latch .chargeState (.chargeState k (t.chg.packs.get k).phase (reportedHold t k)) t

/-- A pack's charge status with a phase; the done RSOC is cleared when the pack leaves DONE (R105). -/
def ChargeStatus.withPhase (c : ChargeStatus) (p : ChargePhase) : ChargeStatus :=
  { c with phase := p, doneRsoc := if c.phase = .done ∧ p ≠ .done then none else c.doneRsoc }

/-- The state with a pack's phase written. -/
def putPhase (k : Slot) (p : ChargePhase) (s : State) : State :=
  s.mapChg fun c => { c with packs := c.packs.set k ((c.packs.get k).withPhase p) }

/-- A pack that loses the selection: IDLE, unless it is DONE or FAULT (R105). -/
def leftPhase (p : ChargePhase) : ChargePhase :=
  match p with
  | .done => .done
  | .fault => .fault
  | _ => .idle

/-- A session starts in QUALIFY with its records cleared (R105). A running budget retry stops with the cause BUDGET that it times
(DESIGN CHOICE: R105's list does not name it; log entry 54). -/
def startSession (k : Slot) (s : State) : State :=
  changePack k (fun s => putPhase k .qualify
    (s.mapChg fun c => { c with sessionMs := 0, prechargeMs := 0, termination := 0, hold := .clear, budgetRetry := none,
                                chargeVoltage := none, switchOver := none })) s

/-! ### Calibration record (R115) -/

/-- The bypass is ON exactly while DISCHARGE runs unsuspended (R98, R117). -/
def bypassFor (c : CalRecord) : Bool := decide (c.phase = .discharge ∧ c.suspension = .clear)

/-- A calibration phase is running (R115). -/
def CalRecord.running (c : CalRecord) : Bool := decide (c.phase = .discharge ∨ c.phase = .rest ∨ c.phase = .charge)

/-- The calibration record is written, the bypass follows, and CALIBRATION_STATUS is latched when the record changes
(R115). -/
def putCal (r : CalRecord) (s : State) : State :=
  let t := s.mapChg fun c => { c with cal := r, adapter := { c.adapter with bypass := bypassFor r } }
  if r = s.chg.cal then t else latch .calibrationStatus (.calibration r) t

/-- A running cycle ends (R118, R120). -/
def endCal (outcome : CalOutcome) (cause : Option CalCause) (s : State) : State :=
  if s.chg.cal.running then
    putCal { s.chg.cal with phase := .ended, outcome := outcome, cause := cause, endPhase := some s.chg.cal.phase,
                            capacityAfter := s.chg.cal.slot.bind fun k => lastValue s k .fullCapacity } s
  else s

/-- The running cycle concerns a slot in a phase. -/
def calIn (s : State) (k : Slot) (p : CalPhase) : Bool := decide (s.chg.cal.phase = p ∧ s.chg.cal.slot = some k)

/-- REST begins with the policy rest time, and a rest time of 0 passes through it at once (R117, R118). -/
def beginRest (s : State) : State :=
  putCal { s.chg.cal with phase := if restMs s.store.policy = 0 then .charge else .rest,
                          restMs := restMs s.store.policy } s

/-- The end of DISCHARGE is tested for a slot (R117). -/
def dischargeEnds (s : State) (k : Slot) : Bool :=
  shows (s.pack k).status fullyDischarged || shows (s.pack k).status terminateDischarge ||
  decide (validValue s k .rsoc = some 0) ||
  (match validValue s k .voltage with
    | some v => decide (v ≤ 3000 * cells s k)
    | none => false)

/-- The test of DISCHARGE's end, made at reads, alarms and changes of valid flags of the calibrating pack (R117). -/
def testDischarge (k : Slot) (s : State) : State :=
  if calIn s k .discharge && decide (s.chg.cal.suspension = .clear) && dischargeEnds s k then beginRest s else s

/-! ### The session (R107, R108, R110) -/

/-- The stop threshold in force for a pack: 100 during its calibration CHARGE (R108). -/
def stopFor (s : State) (k : Slot) : Nat := if calIn s k .charge then 100 else s.chg.stop

/-- The session is in one of the phases of R108. -/
def inSession (s : State) (k : Slot) : Bool :=
  (s.chg.packs.get k).phase.session || decide ((s.chg.packs.get k).phase = .hold)

/-- One of R108's conditions for DONE holds. -/
def doneNow (s : State) (k : Slot) : Bool :=
  shows (s.pack k).status fullyCharged ||
  (match validValue s k .rsoc with
    | some r => decide (stopFor s k ≤ r)
    | none => false) ||
  (decide ((s.chg.packs.get k).phase = .constantVoltage) &&
    (decide (2 ≤ s.chg.termination) || decide (requestOf s < 128)))

/-- A pack enters DONE: the done RSOC is written, and a calibration CHARGE ends COMPLETE (R108, R118). The done RSOC is the last
RSOC, valid or not, and absent when none was read (DESIGN CHOICE: R105 writes "the RSOC" and FULLY_CHARGED can end a session
held with a stale one; log entry 55). -/
def enterDone (k : Slot) (s : State) : State :=
  let t := changePack k (fun s =>
    s.mapChg fun c => { c with packs := c.packs.set k { (c.packs.get k) with phase := .done,
                                                                             doneRsoc := lastValue s k .rsoc } }) s
  if calIn t k .charge then endCal .complete none t else t

/-- The session's hold causes are judged: a cause sends a running session to HOLD, an empty set returns HOLD to QUALIFY
with its timers kept and its termination count 0 (R110). -/
def judgeHold (k : Slot) (s : State) : State :=
  changePack k (fun s =>
    let causes := holdCausesOf s k
    let t := s.mapChg fun c => { c with hold := causes }
    if causes.isClear then
      if (s.chg.packs.get k).phase = .hold then putPhase k .qualify (t.mapChg fun c => { c with termination := 0 }) else t
    else putPhase k .hold t) s

/-- QUALIFY has its data: VOLTAGE, RC and RV valid, and RC and RV read since the selection (R107). -/
def qualifyReady (s : State) (k : Slot) : Bool :=
  decide ((s.chg.packs.get k).phase = .qualify) && s.chg.hold.isClear && s.chg.freshCurrent && s.chg.freshVoltage &&
    (s.item k .voltage).valid && (s.item k .requestedCurrent).valid && (s.item k .requestedVoltage).valid

/-- The decision of QUALIFY: the voltage set-point, then PRECHARGE or CONSTANT_CURRENT (R107). -/
def decideQualify (k : Slot) (s : State) : State :=
  if qualifyReady s k then
    match chargeVoltageOf s k, lastValue s k .voltage with
    | some cv, some v =>
      changePack k (fun s => putPhase k (if v < 3000 * cells s k then .precharge else .constantCurrent)
        (s.mapChg fun c => { c with chargeVoltage := some cv, vSet := voltageStep cv })) s
    | _, _ => s
  else s

/-- The selected pack's session takes its transitions (R107, R108, R110). Until the session starts, during a switch-over, the
set of hold causes stays empty (DESIGN CHOICE: R110 has them for the selected pack, R106 for the session; log entry 51). DONE is
tested before the hold causes (DESIGN CHOICE: R108 and R110 do not order two transitions that one change brings; log entry
58). -/
def sessionPass (s : State) : State :=
  match s.chg.selected with
  | none => s
  | some k =>
    if s.chg.switchOver.isNone && isActive s k && inSession s k then
      if doneNow s k then enterDone k s else decideQualify k (judgeHold k s)
    else s

/-! ### The selected pack (R104, R105) -/

/-- A pack needs charge (R104). -/
def needsCharge (s : State) (k : Slot) : Bool :=
  match (s.chg.packs.get k).phase, validValue s k .rsoc with
  | .idle, some r => decide (r < s.chg.start)
  | .done, some r =>
    decide (r < s.chg.start) &&
      (match (s.chg.packs.get k).doneRsoc with
        | some d => decide (r + 3 ≤ d)
        | none => true)
  | .idle, none | .done, none | .fault, _ => false
  | _, _ => decide (s.chg.selected = some k)

/-- The further conditions on a pack that is not already selected (R104). -/
def freshlyEligible (s : State) (k : Slot) : Bool :=
  (s.item k .voltage).valid && (s.item k .status).valid && (s.item k .temperature).valid && (s.item k .rsoc).valid &&
    !shows (s.pack k).status terminateCharge && s.chg.adapter.present

/-- A pack is eligible for selection (R104). -/
def eligible (s : State) (k : Slot) : Bool :=
  isActive s k && decide ((s.chg.packs.get k).phase ≠ .fault) && !calIn s k .discharge && !calIn s k .rest &&
    needsCharge s k && (decide (s.chg.selected = some k) || freshlyEligible s k)

/-- The charge order (R104). -/
def chargeOrder (p : Policy) : List Slot := if p.chargeIntFirst then [.int, .rear] else [.rear, .int]

/-- The pack that R104 chooses: none while the bypass is ON, the calibrating pack in its CHARGE phase, else the first
eligible pack in the charge order. -/
def packChoice (s : State) : Option Slot :=
  if s.chg.adapter.bypass then none
  else if s.chg.cal.phase = .charge then
    s.chg.cal.slot.filter fun k => isActive s k && decide ((s.chg.packs.get k).phase ≠ .fault)
  else (chargeOrder s.store.policy).find? (eligible s)

/-- The pack that loses the selection leaves its session, its RC and RV polls end, and the set-point goes to 0 (R90, R105). The
hold causes and a running budget retry end with the session (DESIGN CHOICE: R105 has the causes cleared at a session's start
and does not name the retry; log entries 25 and 54). -/
def dropSelection (s : State) : State :=
  match s.chg.selected with
  | none => s
  | some k =>
    let t := changePack k (fun s => putPhase k (leftPhase (s.chg.packs.get k).phase)
      (s.mapChg fun c => { c with selected := none, switchOver := none, hold := .clear, budgetRetry := none,
                                  chargeVoltage := none, iSet := 0 })) s
    dequeueWhere (fun e => decide (e.slot = k ∧
      (e.item = .dyn .requestedCurrent ∨ e.item = .dyn .requestedVoltage))) t

/-- A new pack is selected: RC and RV are due at once; its session starts at once when the switch stands at it, else
after the switch-over (R90, R105). -/
def takeSelection (k : Slot) (s : State) : State :=
  let t := s.mapChg fun c => { c with selected := some k, freshCurrent := false, freshVoltage := false, iSet := 0 }
  let t := enqueue k (.dyn .requestedVoltage) t.now (enqueue k (.dyn .requestedCurrent) t.now t)
  if t.chg.switchAt = k then startSession k t
  else changePack k (fun s => putPhase k .idle
    (s.mapChg fun c => { c with switchOver := some Config.switchOverMs })) t

/-- The choice of R104 is made again. -/
def choosePack (s : State) : State :=
  if packChoice s = s.chg.selected then s
  else match packChoice s with
    | none => dropSelection s
    | some k => takeSelection k (dropSelection s)

/-! ### Settling -/

/-- A changed charge voltage rewrites the voltage set-point (R103, R112). Before the session's first decision in QUALIFY
the session has no charge voltage yet, and the set-point stays until that decision (DESIGN CHOICE: R103 writes it "at
QUALIFY and at each change"; log entry 38). -/
def followChargeVoltage (s : State) : State :=
  match s.chg.selected, s.chg.chargeVoltage with
  | some k, some old =>
    match chargeVoltageOf s k with
    | some v => if v = old then s else s.mapChg fun c => { c with chargeVoltage := some v, vSet := voltageStep v }
    | none => s
  | _, _ => s

/-- The current set-point follows I_chg and I_req (R103). -/
def applyCurrent (s : State) : State := s.mapChg fun c => { c with iSet := appliedCurrent s }

/-- One round: the session's transitions, then the choice (DESIGN CHOICE: where one change, such as new charge limits, both ends
the selected pack's session and makes a higher pack eligible, R104, R108 and R113 do not say which is taken first; here the
selected pack enters DONE before it loses the charger, and so does not end IDLE; log entry 58). -/
def chargeRound (s : State) : State := choosePack (sessionPass s)

/-- The source choice, then rounds until the session and the selection are settled: each of the two packs can enter DONE
once and be replaced once, so four rounds reach the end. -/
def settleOnce (s : State) : State :=
  refreshPeriods (applyCurrent (followChargeVoltage
    (chargeRound (chargeRound (chargeRound (chargeRound (chooseSource s)))))))

/-- The end of DISCHARGE is tested for a slot one of whose own valid flags has changed since an earlier state (R117). -/
def testAtFlags (before : State) (k : Slot) (s : State) : State :=
  if validFlags s k = validFlags before k then s else testDischarge k s

/-- A change of phase can change a period in force and with it a valid flag (R89, R91), which is an input again; that
second settling is the last of the step (log entry 19). -/
def settleTwice (s : State) : State :=
  let t := settleOnce s
  if validFlags t .int = validFlags s .int ∧ validFlags t .rear = validFlags s .rear then t
  else settleOnce (testAtFlags s .rear (testAtFlags s .int t))

/-- A session that still runs beside a hold cause goes to HOLD with the set-point at 0 (R110). -/
def holdAtLast (s : State) : State :=
  match s.chg.selected with
  | none => s
  | some k =>
    if (s.chg.packs.get k).phase.session && !(holdCausesOf s k).isClear then
      refreshPeriods (applyCurrent (judgeHold k s))
    else s

/-- The charge controller acts on changed inputs; no session is left running beside a hold cause (R110). -/
def settleCharge (s : State) : State := holdAtLast (settleTwice s)

/-- The suspension set is changed in a running phase (R119). -/
def suspend (f : Suspension → Suspension) (s : State) : State :=
  putCal { s.chg.cal with suspension := f s.chg.cal.suspension } s

/-- PLATFORM is in the set exactly while DISCHARGE stands and the platform is not in RUN (R119). -/
def suspendByPlatform (s : State) : State :=
  if s.chg.cal.phase = .discharge then suspend (fun p => { p with platform := decide (s.pwr.state ≠ .run) }) s else s

/-- A pack enters FAULT; a calibration CHARGE of it ends FAILED (R109, R120). -/
def enterFault (k : Slot) (cause : ChargeFault) (s : State) : State :=
  let t := changePack k (fun s =>
    s.mapChg fun c => { c with packs := c.packs.set k { ((c.packs.get k).withPhase .fault) with fault := cause } }) s
  if calIn t k .charge then endCal .failed (some .chargeFault) t else t

/-- Charge limits are applied: clamped, the done RSOC of both packs cleared, and the choice made again (R113). -/
def applyLimits (stop start : Nat) (s : State) : State :=
  settleCharge (s.mapChg fun c =>
    { c with stop := (clampLimits stop start).1, start := (clampLimits stop start).2,
             packs := c.packs.map fun _ p => { p with doneRsoc := none } })

/-- The CHARGE_LIMIT_TOGGLE hotkey (R114). -/
def toggleLimits (s : State) : State :=
  if s.chg.stop = 100 ∧ s.chg.start = 95 then
    applyLimits s.store.policy.longevityStop s.store.policy.longevityStart s
  else applyLimits 100 95 s

/-! ### Combined charge (R121) -/

/-- A slot's contribution: REMAINING_CAPACITY and FULL_CAPACITY, both valid, the latter above 0. -/
def contribution (s : State) (k : Slot) : Option (Nat × Nat) :=
  if isActive s k then
    match validValue s k .remainingCapacity, validValue s k .fullCapacity with
    | some r, some f => if f = 0 then none else some (r, f)
    | _, _ => none
  else none

/-- The combined charge in percent, absent when no slot contributes (R121). -/
def combinedCharge (s : State) : Option Nat :=
  match allSlots.filterMap (contribution s) with
  | [] => none
  | cs => some (min 100 ((cs.map Prod.fst).sum * 100 / (cs.map Prod.snd).sum))

/-! ### Standing conditions (R178, R179) -/

/-- CRITICAL_ENERGY, THERMAL_TRIP and BUDGET_SHORT are latched again while their conditions hold. The starting value of the
short flag counts as a condition that holds (DESIGN CHOICE, log entry 40). -/
def latchStanding (s : State) : State :=
  let s := if criticalHolds s then latch .criticalEnergy (.criticalEnergy s.chg.energy (combinedCharge s)) s else s
  let s := if tripHolds s then latch .thermalTrip (.sensors (trippedSet s)) s else s
  if s.bud.short then latch .budgetShort .empty s else s

end Sys2Proof.Machine
end

