-- ==== Sys2Proof/Machine/Thermal.lean ====
section
/-! DEFINITION. The thermal controller's operations: conversion, crossings, the heat limit, curves, floors, fan steps. -/
namespace Sys2Proof.Machine

/-- The state with the thermal controller changed. -/
def State.mapThr (s : State) (f : Thermal → Thermal) : State := { s with thr := f s.thr }

/-- A sensor's record. -/
def State.sensor (s : State) (k : Sensor) : SensorRec := s.thr.sensors.get k

/-- The state with a sensor's record changed. -/
def State.mapSensor (s : State) (k : Sensor) (f : SensorRec → SensorRec) : State :=
  s.mapThr fun t => { t with sensors := t.sensors.set k (f (t.sensors.get k)) }

/-- The state with each fan's record changed. -/
def State.mapFans (s : State) (f : Fan → FanRec → FanRec) : State := s.mapThr fun t => { t with fans := t.fans.map f }

/-- A sensor is in fault while OPEN or SHORT (R143). -/
def SensorRec.inFault (r : SensorRec) : Bool := decide (r.state = .openFault ∨ r.state = .shortFault)

/-! ### Conversion (R144, R145) -/

/-- The factory thermistor table's 17 codes (R192). -/
def thermistorTable (s : State) : List Nat :=
  (List.range 17).map fun i => fromLe (s.store.factory.readBytes (0x10 + 2 * i) 2)

/-- Whether the codes fall strictly from point to point (R145). -/
def strictlyFalls : List Nat → Bool
  | a :: b :: rest => decide (b < a) && strictlyFalls (b :: rest)
  | _ => true

/-- The temperature of a code at or below the first of the codes left, whose temperature is `t` (R144). -/
def interpolateCode (code : Nat) : Int → List Nat → Int
  | t, a :: b :: rest => if b < code then t + ((a - code) * 100 / (a - b) : Nat) else interpolateCode code (t + 100) (b :: rest)
  | t, _ => t

/-- The temperature of a valid code in 0.1 °C: above code_0 it is −20.0 °C (R144). -/
def temperatureOf (table : List Nat) (code : Nat) : Int :=
  if table.headD 0 < code then -200 else interpolateCode code (-200) table

/-- The fault that a conversion shows, none when it is valid: with an unusable table every one counts as OPEN (R145). -/
def conversionFault (table : List Nat) (code : Nat) : Option SensorState :=
  if !strictlyFalls table || decide (4050 < code) then some .openFault
  else if code < 45 then some .shortFault else none

/-- A sensor's record after a valid conversion (R144, R145). -/
def SensorRec.converted (r : SensorRec) (code : Nat) (t : Int) : SensorRec :=
  if r.inFault then
    if 4 ≤ r.validRun + 1 then { r with code := code, temp := some t, state := .valid, validRun := 0 }
    else { r with code := code, temp := some t, validRun := r.validRun + 1 }
  else { r with code := code, temp := some t, state := .valid }

/-- One sensor's conversion, with SENSOR_FAULT and the held WARN crossing at fault entry (R145). -/
def convertSensor (k : Sensor) (code : Nat) (s : State) : State :=
  let table := thermistorTable s
  match conversionFault table code with
  | none => s.mapSensor k fun r => r.converted code (temperatureOf table code)
  | some fault =>
    let t := s.mapSensor k fun r => { r with code := code, state := fault, validRun := 0, warn := true }
    if (s.sensor k).inFault then t
    else
      let t := latch .sensorFault (.sensors (sensorSet k)) t
      if (s.sensor k).warn then t else latch .thermalWarn (.sensors (sensorSet k)) t

/-! ### Crossings (R147) -/

/-- A crossing judged against its threshold: set at or above it, cleared at or below it less 5.0 °C. -/
def crossing (now : Bool) (t threshold : Int) : Bool :=
  if threshold ≤ t then true else if t ≤ threshold - 50 then false else now

/-- A crossing with no threshold stays clear (R146). -/
def crossing? (now : Bool) (t : Int) : Option Int → Bool
  | some threshold => crossing now t threshold
  | none => false

/-- The WARN crossing of a sensor not in fault is judged from its temperature; setting it latches THERMAL_WARN (R147). -/
def judgeWarn (k : Sensor) (s : State) : State :=
  match (s.sensor k).state, (s.sensor k).temp with
  | .valid, some t =>
    let w := crossing (s.sensor k).warn t (warnOf s.store.policy s.post.posture k)
    let u := s.mapSensor k fun r => { r with warn := w }
    if w && !(s.sensor k).warn then latch .thermalWarn (.sensors (sensorSet k)) u else u
  | _, _ => s

/-- All crossings of a sensor not in fault are judged (R147). -/
def judgeSensor (k : Sensor) (s : State) : State :=
  match (s.sensor k).state, (s.sensor k).temp with
  | .valid, some t =>
    (judgeWarn k s).mapSensor k fun r =>
      { r with trip := crossing? r.trip t (tripOf s.store.policy k), hard := crossing? r.hard t (hardOf s.store.policy k) }
  | _, _ => s

/-- Every sensor's crossings are judged. -/
def judgeSensors (s : State) : State := allSensors.foldl (fun s k => judgeSensor k s) s

/-! ### The heat limit (R150) -/

/-- The margin m in 0.1 °C, limited to 0..S; 0 for a sensor in fault or without a temperature. -/
def margin (s : State) (k : Sensor) : Nat :=
  if (s.sensor k).inFault then 0
  else match (s.sensor k).temp with
    | none => 0
    | some t => (clampInt 0 (spanOf s.store.policy) (limitOf s.store.policy s.post.posture k - t)).toNat

/-- H_max_eff: H_max, ×800/1000 in QUIET, halved with one fan STALLED, at least H_min (R150, step 2). -/
def hMaxEffOf (s : State) : Nat :=
  let h := hMaxOf s.store.policy
  let h := if s.thr.mode = .quiet then h * 800 / 1000 else h
  let h := if s.thr.fans.a.stalled || s.thr.fans.b.stalled then h / 2 else h
  max h (hMinOf s.store.policy)

/-- A sensor's term (R150, step 3). -/
def heatTerm (s : State) (k : Sensor) : Nat :=
  hMinOf s.store.policy + (hMaxEffOf s - hMinOf s.store.policy) * margin s k / (spanOf s.store.policy).toNat

/-- TRIP holds, or both fans are STALLED (R150, step 1). -/
def heatFloored (s : State) : Bool := tripHolds s || (s.thr.fans.a.stalled && s.thr.fans.b.stalled)

/-- The first sensor whose term equals H. -/
def limitingSensor (t : PerSensor Nat) (h : Nat) : Sensor := (allSensors.find? fun k => t.get k == h).getD .soc

/-- The computation of H (R150); where step 1 decides, H_max_eff stays as it stood (log entry 8). -/
def computeH (s : State) : State :=
  let terms : PerSensor Nat :=
    if heatFloored s then ⟨hMinOf s.store.policy, hMinOf s.store.policy, hMinOf s.store.policy, hMinOf s.store.policy⟩
    else ⟨heatTerm s .soc, heatTerm s .charger, heatTerm s .deck, heatTerm s .base⟩
  let h := min (min terms.soc terms.charger) (min terms.deck terms.base)
  s.mapThr fun t =>
    { t with sensors := t.sensors.map fun k r => { r with hs := terms.get k }, h := h,
             hMaxEff := if heatFloored s then t.hMaxEff else hMaxEffOf s, limiting := limitingSensor terms h }

/-! ### Curves (R152, R153) -/

/-- The curve value between points (R152). -/
def curveBetween (t : Int) : List (Int × Nat) → Int
  | a :: b :: rest =>
    if t < b.1 then (a.2 : Int) + (((b.2 : Int) - a.2) * (t - a.1)).tdiv (b.1 - a.1) else curveBetween t (b :: rest)
  | [a] => a.2
  | [] => 0

/-- The curve value f(T): the first duty below the first point, the last at or above the last (R152). -/
def curveValue (points : List (Int × Nat)) (t : Int) : Nat :=
  match points with
  | [] => 0
  | a :: rest => if t < a.1 then a.2 else (curveBetween t (a :: rest)).toNat

/-- A fan's governing sensors (section 7.1). -/
def governing : Fan → List Sensor
  | .a => [.soc]
  | .b => [.charger, .deck, .base]

/-- The temperature a sensor contributes to the curves: in fault the greater of its last valid temperature and WARN, else
its temperature (R145, R152). -/
def contributed (s : State) (k : Sensor) : Option Int :=
  if (s.sensor k).inFault then
    match (s.sensor k).temp with
    | some t => some (max t (warnOf s.store.policy s.post.posture k))
    | none => some (warnOf s.store.policy s.post.posture k)
  else (s.sensor k).temp

/-- The governing temperature of a fan, the highest contribution (R152). -/
def governingTemp (s : State) (fan : Fan) : Option Int :=
  ((governing fan).filterMap (contributed s)).foldl (fun best t => some (match best with | none => t | some b => max b t)) none

/-- The curve target after hysteresis (R153). -/
def curveTarget (points : List (Int × Nat)) (t : Int) : Option Nat → Nat
  | none => curveValue points t
  | some c =>
    if c ≤ curveValue points t then curveValue points t
    else if curveValue points (t + 30) < c then curveValue points (t + 30) else c

/-! ### Fan control (R154 to R156, R161) -/

/-- The floor condition: a governing sensor has its WARN crossing set or is in fault (R155). -/
def floorCondition (s : State) (fan : Fan) : Bool :=
  (governing fan).any fun k => (s.sensor k).warn || (s.sensor k).inFault

/-- A fan's commanded duty is driven; the tach window notes a duty below 20 (R160). -/
def FanRec.drive (f : FanRec) (duty : Nat) : FanRec :=
  { f with commanded := duty, windowOk := f.windowOk && decide (20 ≤ duty) }

/-- At the start of a floor condition the commanded duty and the target are raised to the safe floor at once (R155). A higher
safe floor written under a holding floor condition raises the target with the commanded duty, which alone R162 names (DESIGN
CHOICE, log entry 48). -/
def raiseToFloor (s : State) : State :=
  s.mapFans fun fan f =>
    if floorCondition s fan then
      { (f.drive (max f.commanded (safeFloorOf s.store.policy fan))) with target := max f.target (safeFloorOf s.store.policy fan) }
    else f

/-- Both fans at 100% at once, by TRIP or a stall override (R156). -/
def fansFull (s : State) : State := s.mapFans fun _ f => { (f.drive 100) with target := 100 }

/-- The states in which the fan mode applies (R154). -/
def PlatformState.running : PlatformState → Bool
  | .powerUp | .run | .resume => true
  | _ => false

/-- The mode target of a fan (R154 step 1, R161). -/
def modeTarget (s : State) (fan : Fan) : Nat :=
  let f := s.thr.fans.get fan
  let curve := f.curve.getD 100
  if s.pwr.state.running then
    match s.thr.mode with
    | .auto => curve
    | .quiet => curve * 70 / 100
    | .performance => min 100 (curve + 15)
    | .manual => f.manual
  else if floorCondition s fan then curve else 0

/-- The target after the safe floor (R154 step 2). -/
def flooredTarget (s : State) (fan : Fan) : Nat :=
  if floorCondition s fan then max (modeTarget s fan) (safeFloorOf s.store.policy fan) else modeTarget s fan

/-- The stall override holds: a fan is STALLED, and outside the running states some fan has a target above 0 after the
safe floor (R154 step 3, R161). -/
def stallOverride (s : State) : Bool :=
  (s.thr.fans.a.stalled || s.thr.fans.b.stalled) &&
    (s.pwr.state.running || decide (0 < flooredTarget s .a) || decide (0 < flooredTarget s .b))

/-- The demand rule: a target of 1..19 becomes 20 (R154 step 4). -/
def demand (t : Nat) : Nat := if 1 ≤ t ∧ t ≤ 19 then 20 else t

/-- One ramp step of at most 5 points, never ending in 1..19 (R156). -/
def ramp (commanded target : Nat) : Nat :=
  if commanded < target then
    if target ≤ commanded + 5 then target else if commanded + 5 < 20 then 20 else commanded + 5
  else if commanded ≤ target + 5 then target
  else if commanded - 5 < 20 then 0 else commanded - 5

/-- The curve targets are updated from the governing temperatures (R153). -/
def updateCurves (s : State) : State :=
  s.mapFans fun fan f =>
    match governingTemp s fan with
    | none => f
    | some t => { f with curve := some (curveTarget (curvePoints s.store.policy fan) t f.curve) }

/-- Targets and commanded duties of one step, after the curve targets (R154, R156). -/
def driveFans (s : State) : State :=
  if tripHolds s || stallOverride s then fansFull s
  else s.mapFans fun fan f =>
    { (f.drive (ramp f.commanded (demand (flooredTarget s fan)))) with target := demand (flooredTarget s fan) }

/-- One fan control step for both fans; none takes effect during the start-up hold (R153, R154, R159). -/
def fanStep (s : State) : State := if s.thr.holdOver then driveFans (updateCurves s) else s

/-- The fan mode is written and H computed again (R157, R158). -/
def setFanMode (m : FanMode) (s : State) : State := computeH (s.mapThr fun t => { t with mode := m })

/-- The fan hotkeys (R158). -/
def toggleBoost (s : State) : State := setFanMode (if s.thr.mode = .performance then .auto else .performance) s
def toggleQuiet (s : State) : State := setFanMode (if s.thr.mode = .quiet then .auto else .quiet) s

/-- A manual duty as taken: above 100 as 100, 1..19 as 20 (R157). -/
def manualDuty (n : Nat) : Nat := if 100 < n then 100 else demand n

/-- Warm reset and OFF entry return the fan mode to the policy default and the manual duties to 0 (R163). -/
def resetFanMode (s : State) : State :=
  setFanMode s.store.policy.fanModeDefault (s.mapFans fun _ f => { f with manual := 0 })

/-- The posture monitor hands over a commit: the skins' WARN crossings are judged again, the floor applied, and H computed
(R147, R150, R155). A floor condition that begins here outside the running states, with a fan STALLED, raises the fans to the
safe floor, and the stall override acts at the next fan control step (R156, R161; DESIGN CHOICE, log entry 47). -/
def thermalPosture (s : State) : State := computeH (raiseToFloor (judgeWarn .base (judgeWarn .deck s)))

end Sys2Proof.Machine
end

