-- ==== Sys2Proof/Machine/Scanner.lean ====
section
/-! DEFINITION. The keyboard scanner's shared operations: key records and the queue, suppression, scan mode, backlight timer,
resets. -/
namespace Sys2Proof.Machine

/-- The state with the scanner changed. -/
def State.mapKbd (s : State) (f : Keyboard → Keyboard) : State := { s with kbd := f s.kbd }

/-- The timestamp clock: ms since the part's power appeared, modulo 65,536 (R46). -/
def timestamp (s : State) : Nat := s.now % 65536

/-! ### The position table (R46, R55) -/

/-- A position's record when unlisted. -/
def freePosition (_position : Nat) : PosRec := { pressed := false, count := 0, disposition := .free }

/-- A position's record. -/
def State.position (s : State) (p : Nat) : PosRec := sparseGet freePosition s.kbd.positions p

/-- The state with a position's record written. -/
def setPosition (p : Nat) (r : PosRec) (s : State) : State :=
  s.mapKbd fun k => { k with positions := sparseSet freePosition k.positions p r }

/-- The state with a position's disposition written. -/
def setDisposition (p : Nat) (d : Disposition) (s : State) : State := setPosition p { s.position p with disposition := d } s

/-- Fn is held while a position has disposition FN (R55). -/
def fnHeld (s : State) : Bool := s.kbd.positions.any fun e => decide (e.2.disposition = .fn)

/-- The blocked set, ascending (R51). -/
def blockedSet (s : State) : List Nat :=
  (s.kbd.positions.filter fun e => decide (e.2.disposition = .blocked)).map Prod.fst

/-- The keymap entry in force: the override, else the policy's (R53). -/
def keyInForce (s : State) (p : Nat) : KeyEntry :=
  match sparseGet (fun _ => none) s.kbd.overrides p with
  | some e => e
  | none => policyKey s.store.policy p

/-! ### The key queue (R61, R63) -/

/-- A record made now: appended with room and the flag clear, else discarded with the overflowed flag set; a queue that
becomes not empty latches KEY_AVAILABLE. -/
def pushRecord (code : Byte) (action : KeyAction) (layer : Layer) (s : State) : State :=
  if s.kbd.overflowed || decide (32 ≤ s.kbd.queue.length) then s.mapKbd fun k => { k with overflowed := true }
  else
    let t := s.mapKbd fun k => { k with queue := k.queue ++ [⟨code, action, layer, timestamp s⟩] }
    if s.kbd.queue.isEmpty then latch .keyAvailable .empty t else t

/-- The queue is emptied and the flag cleared; a queue that becomes empty ends KEY_AVAILABLE (R63, R72, R73). -/
def clearQueue (s : State) : State :=
  let t := s.mapKbd fun k => { k with queue := [], overflowed := false }
  if s.kbd.queue.isEmpty then t else endCondition .keyAvailable t

/-- A record for each held key, in table order. -/
def pushHeld (action : KeyAction) (held : List HeldKey) (s : State) : State :=
  held.foldl (fun s h => pushRecord h.code action h.layer s) s

/-- The RESYNC record and a PRESS for each held key (R64, R72). -/
def pushResync (s : State) : State := pushHeld .press s.kbd.held (pushRecord 0 .resync .base s)

/-! ### Suppression (R65, R66) -/

/-- The condition of suppression. -/
def suppressCondition (s : State) : Bool :=
  decide (s.post.posture ≠ .laptop) || decide (s.pwr.state ≠ .run) || !s.kbd.enabled

/-- Suppression begins: releases for the held keys, an empty table, every pressed position LATENT (R65). -/
def beginSuppression (s : State) : State :=
  let t := pushHeld .release s.kbd.held (s.mapKbd fun k => { k with suppressed := true })
  t.mapKbd fun k =>
    { k with held := [], positions := k.positions.map fun e => (e.1, if e.2.pressed then { e.2 with disposition := .latent } else e.2) }

/-- The condition is tested, and suppression begins or ends (R65, R66). -/
def testSuppression (s : State) : State :=
  if suppressCondition s then if s.kbd.suppressed then s else beginSuppression s
  else s.mapKbd fun k => { k with suppressed := false }

/-! ### Scan mode (R48, R49) and the backlight timer (R71) -/

/-- The change into STOPPED (R48). -/
def stopScan (s : State) : State := s.mapKbd fun k => { k with mode := .stopped, positions := [], quiet := 0 }

/-- In SLEEP the scanner rests in IDLE_DETECT as soon as every position is RELEASED with no count running (R49). -/
def restInSleep (s : State) : State :=
  if s.pwr.state = .sleep ∧ s.kbd.mode = .active ∧ s.kbd.positions = [] then
    s.mapKbd fun k => { k with mode := .idleDetect } else s

/-- The scan mode follows a change of platform state (R48). -/
def followScanMode (s : State) : State :=
  match s.pwr.state with
  | .powerDown | .off | .faultOff => stopScan s
  | .powerUp => if s.kbd.mode = .stopped then s.mapKbd fun k => { k with mode := .active, quiet := 0 } else s
  | .sleep => restInSleep s
  | .run | .sleepEntry | .resume => s

/-- The idle timer restarts at the full idle time, in RUN and with a time other than 0 (R71). A dimmed flag that is set when
an idle time of 0 comes into force stays set through the restart by a release (DESIGN CHOICE, log entry 49). -/
def restartIdle (s : State) : State :=
  s.mapKbd fun k =>
    { k with idle := if s.pwr.state = .run ∧ idleTimeOf s.store.policy ≠ 0 then some (idleTimeOf s.store.policy * 1000)
                     else none }

/-- The dimmed flag is cleared. -/
def undim (s : State) : State := s.mapKbd fun k => { k with dimmed := false }

/-- The backlight's part in a change of platform state: RUN clears the flag and restarts the timer, which is stopped
outside RUN (R71). -/
def followBacklight (s : State) : State := restartIdle (if s.pwr.state = .run then undim s else s)

/-! ### Resets (R72, R73) -/

/-- Overrides removed, settings and backlight level at the policy defaults (R54, R67, R70). -/
def keyboardDefaults (s : State) : State :=
  s.mapKbd fun k =>
    { k with overrides := [], enabled := s.store.policy.keyboardDefault, route := s.store.policy.routeDefault, caps := false,
             num := false, mute := false, level := min 3 s.store.policy.backlightDefault }

/-- The scanner's warm reset (R72). -/
def keyboardWarmReset (s : State) : State := pushResync (testSuppression (keyboardDefaults (clearQueue s)))

/-- The scanner's OFF entry (R73). -/
def keyboardOffEntry (s : State) : State :=
  keyboardDefaults ((clearQueue s).mapKbd fun k => { k with held := [] })

end Sys2Proof.Machine
end

