-- ==== Sys2Proof/Machine/Sequencer.lean ====
section
/-! DEFINITION. The power sequencer's operations: the change of platform state with what the other blocks do at it, the rail
sequences, rail faults, power-on requests, wakes and forced power-downs. -/
namespace Sys2Proof.Machine

/-- The state with the sequencer changed. -/
def State.mapPwr (s : State) (f : Sequencer → Sequencer) : State := { s with pwr := f s.pwr }

/-- The state with the budget record changed. -/
def State.mapBud (s : State) (f : Budget → Budget) : State := { s with bud := f s.bud }

/-- The state with the configuration store changed. -/
def State.mapStore (s : State) (f : Store → Store) : State := { s with store := f s.store }

/-- The state with a rail's entry changed. -/
def State.mapRail (s : State) (r : Rail) (f : RailEntry → RailEntry) : State :=
  s.mapPwr fun p => { p with rails := p.rails.set r (f (p.rails.get r)) }

/-- The escalation windows at a change of platform state: arrival in RUN starts those whose condition holds, and leaving
RUN stops both (R175, R176). -/
def followWindows (old : PlatformState) (s : State) : State :=
  if s.pwr.state = .run then startWindowsAtRun s else if old = .run then stopWindows s else s

/-- A change of platform state, with what the scanner, the backlight, the notice unit and the charge controller do at it;
it ends the refusal display, and a wake timer's expiry not taken yet is lost with the state it came in (R1, R18, R27, R48,
R65, R66, R71, R119, R175, R176). -/
def changeState (new : PlatformState) (s : State) : State :=
  let t := s.mapPwr fun p => { p with state := new, refusalDisplay := none, wakeExpired := false }
  settleCharge (suspendByPlatform (followWindows s.pwr.state (followBacklight (followScanMode (testSuppression t)))))

/-! ### Going up (R4, R5, R6) -/

/-- The platform reaches RUN (R5). -/
def reachRun (s : State) : State :=
  let t := changeState .run (s.mapPwr fun p => { p with failureCount := 0, reboot := none, upWait := none })
  latch .wake (.wake t.pwr.wakeCause) (t.mapStore fun c => { c with marker := true })

/-- The rails still to come up are enabled in turn: one whose power-good already reads high counts as up at once (DEDUCED,
log entry 24), the first other one is waited on (R3, R4), and RUN follows the last. -/
def enableFrom : List Rail → State → State
  | [], s => reachRun s
  | r :: rest, s =>
    let t := s.mapRail r fun e => { e with enabled := true }
    if (t.pwr.rails.get r).good then enableFrom rest (t.mapRail r fun e => { e with outcome := .upOk })
    else t.mapPwr fun p => { p with upWait := some (r, upTimeoutOf s.store.policy) }

/-- The rails after one in an order. -/
def railsAfter (r : Rail) : List Rail → List Rail
  | [] => []
  | x :: xs => if x = r then xs else railsAfter r xs

/-- POWER_UP starts with the cause of its request (R4, R16, R21). -/
def startPowerUp (cause : WakeCause) (s : State) : State :=
  let t := s.mapPwr fun p => { p with wakeCause := cause, refusal := .none, reboot := none }
  enableFrom railsUp (changeState .powerUp t)

/-- RESUME starts with its wake cause (R6). -/
def startResume (cause : WakeCause) (s : State) : State :=
  enableFrom [.io, .core, .periph, .disp] (changeState .resume (s.mapPwr fun p => { p with wakeCause := cause }))

/-! ### Going down (R7, R20, R28) -/

/-- SLEEP is entered, and a held wake starts RESUME at once (R20). -/
def reachSleep (s : State) : State :=
  let t := changeState .sleep s
  match t.pwr.heldWake with
  | none => t
  | some cause => startResume cause (t.mapPwr fun p => { p with heldWake := none })

/-- The notice unit at OFF entry: every entry but RAIL_EVENT is cleared, the windows stop, and standing conditions are
latched again (R179). -/
def noticeOffEntry (s : State) : State :=
  let table := s.notice.table.map fun k e => if k = .railEvent then e else { e with pending := false, count := 0 }
  latchStanding (stopWindows { s with notice := { s.notice with table := table } })

/-- The budget unit's mode and boost return to the policy defaults (R140). -/
def budgetDefaults (s : State) : State :=
  s.mapBud fun b => { b with mode := s.store.policy.modeDefault, boost := s.store.policy.boostDefault }

/-- The reboot restart at OFF entry starts its off time (R15). -/
def rebootAtOff : Option RebootRestart → Option RebootRestart
  | none => none
  | some _ => some (.offTime Config.rebootOffMs)

/-- OFF entry (R15, R28, R73, R139, R140, R163, R179). -/
def offEntry (s : State) : State :=
  let t := changeState .off s
  let t := t.mapPwr fun p =>
    { p with transition := none, wakeSet := s.store.policy.wakeDefault, reboot := rebootAtOff p.reboot }
  let t := t.mapStore fun c => { c with marker := false }
  let t := (budgetDefaults t).mapBud fun b => { b with r := processorFloor t.store.policy }
  noticeOffEntry (resetFanMode (keyboardOffEntry t))

/-- The end of a way down: OFF after POWER_DOWN, SLEEP after SLEEP_ENTRY. -/
def endOfDown (s : State) : State := if s.pwr.state = .powerDown then offEntry s else reachSleep s

/-- The rails still to go down are disabled in turn; a rail whose power-good is already low ends its wait at once (R7). -/
def disableFrom : List Rail → State → State
  | [], s => endOfDown s
  | r :: rest, s =>
    if (s.pwr.rails.get r).enabled then
      let t := s.mapRail r fun e => { e with enabled := false }
      if (t.pwr.rails.get r).good then t.mapPwr fun p => { p with downWait := some (r, Config.downWaitMs) }
      else disableFrom rest (t.mapRail r fun e => { e with outcome := .downOk })
    else disableFrom rest s

/-- The rails that the sequence in progress takes down. -/
def downOrder (s : State) : List Rail :=
  if s.pwr.state = .powerDown then railsDown else [.disp, .periph, .core, .io]

/-- A rail's down wait ends with an outcome and the sequence goes on (R7). -/
def endDownWait (r : Rail) (outcome : RailOutcome) (s : State) : State :=
  let t := (s.mapRail r fun e => { e with outcome := outcome }).mapPwr fun p => { p with downWait := none }
  disableFrom (railsAfter r (downOrder t)) t

/-- POWER_DOWN starts; a rail in its down wait goes on waiting (R4, R7, R22). -/
def startPowerDown (cause : DownCause) (s : State) : State :=
  let t := changeState .powerDown (s.mapPwr fun p => { p with downCause := cause, upWait := none })
  if t.pwr.downWait.isSome then t else disableFrom railsDown t

/-- SLEEP_ENTRY starts (R14, R21). -/
def startSleepEntry (s : State) : State :=
  let t := changeState .sleepEntry (s.mapPwr fun p => { p with downCause := .hostSleep, wakeCause := .none })
  disableFrom (downOrder t) t

/-- The target's sequence of a pending transition starts (R14). -/
def startTransition (target : PowerTarget) (s : State) : State :=
  let t := s.mapPwr fun p => { p with transition := none }
  match target with
  | .sleep => startSleepEntry t
  | .off => startPowerDown .hostOff t
  | .reboot => startPowerDown .hostReboot (t.mapPwr fun p => { p with reboot := some .waiting })

/-! ### Rail faults (R8) -/

/-- A rail fault: every rail is disabled, and FAULT_OFF follows with the wake timer disarmed (R8, R9). -/
def railFault (r : Rail) (phase : FaultPhase) (outcome : RailOutcome) (s : State) : State :=
  let t := s.mapRail r fun e => { e with outcome := outcome }
  let t := t.mapPwr fun p =>
    { p with rails := { mem := { p.rails.mem with enabled := false }, io := { p.rails.io with enabled := false },
                        core := { p.rails.core with enabled := false },
                        periph := { p.rails.periph with enabled := false },
                        disp := { p.rails.disp with enabled := false } },
             faultRecord := some (r, phase), failureCount := min 3 (p.failureCount + 1), transition := none,
             heldWake := none, upWait := none, downWait := none, wakeTimer := none, wakeTimerMs := 0 }
  latch .railEvent (.railEvent r (some phase)) (changeState .faultOff t)

/-- The phase of the fault that a power-good loss causes in a state, none where it causes none (R4, R6, R7, R8). -/
def lossPhase (state : PlatformState) (r : Rail) : Option FaultPhase :=
  match state with
  | .powerUp => some .up
  | .run | .sleep | .resume => some .run
  | .sleepEntry => if r = .mem then some .down else none
  | .off | .powerDown | .faultOff => none

/-! ### Power-on requests (R12) -/

/-- A slot passes the start energy check: ACTIVE, RSOC valid and at or above the boot floor, no TERMINATE_DISCHARGE. -/
def canStart (s : State) (k : Slot) : Bool :=
  isActive s k && !shows (s.pack k).status terminateDischarge &&
    (match validValue s k .rsoc with
      | some r => decide (bootFloorOf s.store.policy ≤ r)
      | none => false)

/-- The start energy check. -/
def startEnergy (s : State) : Bool := s.chg.adapter.present || canStart s .int || canStart s .rear

/-- The power LED starts the refusal display afresh: the pattern begins now, also when a display is running (R27). -/
def showRefusal (s : State) : State :=
  { s with pwr := { s.pwr with refusalDisplay := some Config.refusalDisplayMs },
           pins := { s.pins with powerLed := { pattern := .double 1000 125, since := s.now } } }

/-- A refused power-on request. -/
def refusePower (cause : RefusalCause) (s : State) : State := showRefusal (s.mapPwr fun p => { p with refusal := cause })

/-- A power-on request is judged. -/
def powerOnRequest (cause : WakeCause) (s : State) : State :=
  if hardHolds s then refusePower .thermalHard s
  else if startEnergy s then startPowerUp cause s
  else refusePower .noEnergy s

/-! ### Wakes (R19, R20, R23) -/

/-- Whether a wake cause's source is in the wake set; BUTTON always is. -/
def inWakeSet (w : WakeSet) : WakeCause → Bool
  | .button => true
  | .lidOpen => w.lidOpen
  | .keyboard => w.keyboard
  | .adapterChange => w.adapterChange
  | .packChange => w.packChange
  | .timer => w.timer
  | _ => false

/-- A wake that is to be taken: RESUME from SLEEP, held in SLEEP_ENTRY with the first cause kept, nothing elsewhere. -/
def takeWake (cause : WakeCause) (s : State) : State :=
  match s.pwr.state with
  | .sleep => startResume cause s
  | .sleepEntry => if s.pwr.heldWake.isSome then s else s.mapPwr fun p => { p with heldWake := some cause }
  | _ => s

/-- A wake event of R19, dropped when its source is not in the wake set. -/
def wakeEvent (cause : WakeCause) (s : State) : State := if inWakeSet s.pwr.wakeSet cause then takeWake cause s else s

/-! ### Forced power-down (R22) -/

/-- A forcing condition begins. -/
def force (cause : DownCause) (s : State) : State :=
  match s.pwr.state with
  | .powerUp | .run | .sleepEntry | .sleep | .resume =>
    startPowerDown cause (s.mapPwr fun p => { p with transition := none, reboot := none, heldWake := none })
  | .off | .powerDown | .faultOff => s

end Sys2Proof.Machine
end

