-- ==== Sys2Proof/Machine/Energy.lean ====
section
/-! DEFINITION. The energy status: its level, what a change of it does, and the events at which it is judged. -/
namespace Sys2Proof.Machine

/-- The level, by the first row of R121 that holds. -/
def energyLevel (s : State) : EnergyLevel :=
  if s.chg.adapter.present then .normal
  else if s.chg.discharge = none then .criticalHard
  else match combinedCharge s with
    | none => s.chg.energy
    | some c =>
      if c ≤ criticalOf s.store.policy then .critical else if c ≤ lowOf s.store.policy then .low else .normal

/-- A critical level, the condition of the CRITICAL_ENERGY entry and window. -/
def EnergyLevel.isCritical : EnergyLevel → Bool
  | .critical | .criticalHard => true
  | .normal | .low => false

/-- The low crossing is armed when the combined charge reaches the low threshold plus 3 (R122): at every judgement that finds
it at or above that value, whatever it was before, and before the latch of LOW_ENERGY is tested (DESIGN CHOICE, log entry
50). -/
def rearmLow (s : State) : State :=
  match combinedCharge s with
  | none => s
  | some c => if lowOf s.store.policy + 3 ≤ c then s.mapChg fun g => { g with lowArmed := true } else s

/-- A change to LOW or below from NORMAL (R122). -/
def latchLow (old new : EnergyLevel) (s : State) : State :=
  if old = .normal ∧ new ≠ .normal ∧ s.chg.lowArmed then
    latch .lowEnergy .empty (s.mapChg fun g => { g with lowArmed := false })
  else s

/-- CRITICAL_ENERGY and its escalation window at a change of level (R122, R175, R176). -/
def noticeCritical (old new : EnergyLevel) (s : State) : State :=
  if new.isCritical then
    let t := latch .criticalEnergy (.criticalEnergy new (combinedCharge s)) s
    if old.isCritical then t else startWindow .criticalEnergy t
  else if old.isCritical then setWindow .criticalEnergy none (endCondition .criticalEnergy s)
  else s

/-- What the sequencer does at the start of CRITICAL (R23) and of CRITICAL_HARD (R22). -/
def sequenceCritical (new : EnergyLevel) (s : State) : State :=
  match new with
  | .criticalHard => force .criticalHard s
  | .critical => takeWake .criticalEnergy s
  | .normal | .low => s

/-- The energy status is judged, once the first judgement has been made (R121, R122). -/
def judgeEnergy (s : State) : State :=
  if s.chg.judging then
    let old := s.chg.energy
    let new := energyLevel s
    let t := rearmLow s
    if new = old then t
    else sequenceCritical new (noticeCritical old new (latchLow old new (t.mapChg fun g => { g with energy := new })))
  else s

/-- What a pack read, an alarm, a change of a valid flag or of a slot state, and an adapter change lead to: the charge
controller settles, then the energy status is judged (R102, R104, R110, R121). -/
def packEvent (s : State) : State := judgeEnergy (settleCharge s)

end Sys2Proof.Machine
end

