-- ==== Sys2Proof/Machine/Outputs.lean ====
section
/-! DEFINITION. The output pins that follow the state: ALERT, the lock lamps, the backlight and the two LEDs. -/
namespace Sys2Proof.Machine

/-- The power LED's pattern (R27). -/
def powerPattern (s : State) : Pattern :=
  if s.pwr.refusalDisplay.isSome then .double 1000 125
  else match s.pwr.state with
    | .run | .powerUp | .resume => .steady
    | .sleep | .sleepEntry => .single 4000 500
    | .faultOff => .double 2000 250
    | .off | .powerDown => .off

/-- The selected pack is in one of the phases QUALIFY to CONSTANT_VOLTAGE. -/
def chargingPhase (s : State) : Bool :=
  match s.chg.selected with
  | none => false
  | some k => (s.chg.packs.get k).phase.session

/-- The charge LED's pattern (R123). -/
def chargePattern (s : State) : Pattern :=
  if s.chg.packs.int.phase = .fault ∨ s.chg.packs.rear.phase = .fault then .double 1000 125
  else if s.chg.cal.running then .single 1000 500
  else if chargingPhase s then .steady
  else if s.chg.adapter.present = false ∧ s.chg.energy ≠ .normal then .single 2000 250
  else .off

/-- An indicator that follows a pattern: a different one starts now, the same one runs on (R26). -/
def Led.follow (l : Led) (p : Pattern) (now : Nat) : Led := if l.pattern = p then l else { pattern := p, since := now }

/-- Whether an indicator is lit at a time (R26). -/
def Led.lit (l : Led) (now : Nat) : Bool :=
  match l.pattern with
  | .off => false
  | .steady => true
  | .single period on => decide ((now - l.since) % period < on)
  | .double period on =>
    decide ((now - l.since) % period < on) ||
      (decide (2 * on ≤ (now - l.since) % period) && decide ((now - l.since) % period < 3 * on))

/-- The duty of a backlight level in percent (R70). -/
def levelDuty (level : Nat) : Nat := match level with | 0 => 0 | 1 => 30 | 2 => 60 | _ => 100

/-- The backlight output in percent (R70). -/
def backlightDuty (s : State) : Nat :=
  if s.pwr.state = .run ∧ s.post.posture ≠ .closed ∧ s.kbd.dimmed = false then levelDuty s.kbd.level else 0

/-- The pins that the state calls for (R27, R69, R70, R123, R170). -/
def pinsOf (s : State) : Pins :=
  { alert := alertCondition s, capsLamp := decide (s.pwr.state = .run) && s.kbd.caps,
    numLamp := decide (s.pwr.state = .run) && s.kbd.num, muteLamp := decide (s.pwr.state = .run) && s.kbd.mute,
    backlight := backlightDuty s, powerLed := s.pins.powerLed.follow (powerPattern s) s.now,
    chargeLed := s.pins.chargeLed.follow (chargePattern s) s.now }

/-- The pins follow the state. -/
def refreshPins (s : State) : State := { s with pins := pinsOf s }

end Sys2Proof.Machine
end

