-- ==== Sys2Proof/Machine/Posture.lean ====
section
/-! DEFINITION. The posture monitor's operations: conversion, conflict test, candidates, dwell, commit, change of mode and
evaluation. -/
namespace Sys2Proof.Machine

/-- The state with the posture record changed. -/
def State.mapPost (s : State) (f : PostureMonitor → PostureMonitor) : State := { s with post := f s.post }

/-! ### Conversion (R32, R33) -/

/-- The factory zero_offset and span (R192). -/
def zeroOffset (s : State) : Nat := fromLe (s.store.factory.readBytes 0x32 2)
def hingeSpan (s : State) : Nat := fromLe (s.store.factory.readBytes 0x34 2)

/-- Whether a sample is valid. -/
def sampleValid (s : State) (raw : Nat) : Bool := decide (20 ≤ raw ∧ raw ≤ 4075 ∧ hingeSpan s ≠ 0)

/-- The angle of a valid sample. -/
def angleOf (s : State) (raw : Nat) : Nat :=
  (clampInt 0 359 ((((raw : Int) - zeroOffset s) * 360).tdiv (hingeSpan s))).toNat

/-! ### Candidates (R34, R35, R36, R41) -/

/-- The conflict test on the current inputs (R34). -/
def conflictFound (p : PostureMonitor) : Bool :=
  decide (p.angleState ≠ .none) &&
    ((decide (p.lid = .active) && decide (45 ≤ p.angle)) || (decide (p.fold = .active) && decide (p.angle < 270)))

/-- The plain bands (R35). -/
def bandPosture (angle : Nat) : Posture :=
  if angle < 20 then .closed else if angle < 200 then .laptop else if angle < 320 then .tent else .tablet

/-- The angle lies within the committed posture's exit limits (R36). -/
def withinExit (committed : Posture) (angle : Nat) : Bool :=
  match committed with
  | .closed => decide (angle < 28)
  | .laptop => decide (12 ≤ angle ∧ angle < 208)
  | .tent => decide (192 ≤ angle ∧ angle < 328)
  | .tablet => decide (312 ≤ angle)

/-- The angle's candidate: with the hysteresis, or by the plain bands at the first evaluation (R36, R43). -/
def angleCandidate (p : PostureMonitor) : Posture :=
  if p.angleState = .none then p.posture
  else if p.evaluated && withinExit p.posture p.angle then p.posture
  else bandPosture p.angle

/-- The candidate found in the mode in force (R35, R41). -/
def candidateOf (p : PostureMonitor) : Posture :=
  if p.lid = .active then .closed
  else if p.fold = .active then .tablet
  else match p.mode with
    | .angle => angleCandidate p
    | .hallOnly => .laptop

/-! ### Dwell and commit (R37, R38, R44) -/

/-- The dwell is abandoned. -/
def PostureMonitor.noDwell (p : PostureMonitor) : PostureMonitor := { p with candidate := none, dwell := 0 }

/-- The action on a candidate (R37). -/
def PostureMonitor.actOn (p : PostureMonitor) (c : Posture) : PostureMonitor :=
  if c = p.posture then p.noDwell
  else if p.candidate = some c then p
  else { p with candidate := some c, dwell := Config.dwellMs }

/-- POSTURE_CHANGED with the record as it stands. -/
def latchPosture (s : State) : State :=
  latch .postureChanged (.postureChanged s.post.posture s.post.angle s.post.mode) s

/-- A lid-open event is handed to the sequencer (R44). -/
def lidOpen (replaced : Posture) (s : State) : State :=
  if replaced = .closed ∧ s.post.posture ≠ .closed then wakeEvent .lidOpen s else s

/-- A commit: the scanner, the thermal controller and the sequencer take the new posture, then POSTURE_CHANGED is latched
(R38). -/
def commit (c : Posture) (s : State) : State :=
  let t := s.mapPost fun p => { p.noDwell with posture := c }
  latchPosture (lidOpen s.post.posture (thermalPosture (testSuppression t)))

/-! ### Evaluation (R34, R39, R42, R43) -/

/-- A conflict found in ANGLE mode; it begins when none was present (R39). -/
def holdConflict (s : State) : State :=
  if s.post.conflict.isSome then s
  else latch .postureConflict .empty (s.mapPost fun p => { p.noDwell with conflict := some 0 })

/-- The readings are consistent (R42). -/
def consistent (p : PostureMonitor) : Bool :=
  decide (p.angleState = .valid) && decide (p.lid ≠ .unknown) && decide (p.fold ≠ .unknown) && !conflictFound p

/-- The return test of an evaluation in HALL_ONLY mode (R42). -/
def PostureMonitor.watchReturn (p : PostureMonitor) : PostureMonitor :=
  if consistent p then { p with returning := true } else { p with returning := false, returnElapsed := 0 }

/-- The candidate is worked out and acted on; the first evaluation commits it at once (R37, R43). -/
def settleCandidate (first : Bool) (s : State) : State :=
  if first then commit (candidateOf s.post) (s.mapPost fun p => { p with evaluated := true })
  else s.mapPost fun p => p.actOn (candidateOf p)

/-- One evaluation; none is taken while a hall field is UNKNOWN (R31, R34). -/
def evaluate (s : State) : State :=
  if s.post.lid = .unknown ∨ s.post.fold = .unknown then s
  else match s.post.mode with
    | .angle =>
      if conflictFound s.post then
        if s.post.evaluated then holdConflict s else latchPosture (holdConflict (s.mapPost fun p => { p with evaluated := true }))
      else settleCandidate (!s.post.evaluated) (s.mapPost fun p => { p with conflict := none })
    | .hallOnly => settleCandidate (!s.post.evaluated) (s.mapPost fun p => p.watchReturn)

/-! ### Changes of mode (R40, R42) -/

/-- HALL_ONLY is entered; before the first evaluation nothing is latched and no evaluation taken (R40). -/
def enterHallOnly (s : State) : State :=
  let t := s.mapPost fun p =>
    { p.noDwell with mode := .hallOnly, conflict := none, returnElapsed := 0, returning := false }
  if s.post.evaluated then evaluate (latchPosture t) else t

/-- The monitor returns to ANGLE mode (R42). -/
def returnToAngle (s : State) : State :=
  evaluate (latchPosture (s.mapPost fun p => { p.noDwell with mode := .angle, returnElapsed := 0, returning := false }))

/-- A valid angle sample (R32). -/
def takeAngle (angle : Nat) (s : State) : State :=
  evaluate (s.mapPost fun p => { p with angle := angle, angleState := .valid })

/-- An angle rail fault (R33). -/
def takeRailFault (s : State) : State :=
  let t := s.mapPost fun p => { p with angleState := .railFault }
  match s.post.mode with
  | .angle => enterHallOnly t
  | .hallOnly => t.mapPost fun p => { p with returnElapsed := 0, returning := false }

end Sys2Proof.Machine
end

