-- ==== Sys2Proof/Machine/PackBus.lean ====
section
/-! DEFINITION. The pack bus controller's operations: presence, identification, attempts and their outcomes, alarms, the host
fresh read, and what a new value does in the charge controller. -/
namespace Sys2Proof.Machine

/-- The state with the bus changed. -/
def State.mapBus (s : State) (f : Bus → Bus) : State := { s with bus := f s.bus }

/-- The state with one of a slot's poll entries changed. -/
def State.mapItem (s : State) (k : Slot) (i : DynItem) (f : PollEntry → PollEntry) : State :=
  s.mapPack k fun p => { p with items := p.items.set i (f (p.items.get i)) }

/-! ### Words on the wires (R75, R76, R81) -/

/-- A pack's address byte with write direction; read direction is one more. -/
def packAddress : Slot → Byte
  | .int => 0x34
  | .rear => 0x36

/-- The slot that a source address byte names, 0x1A or 0x1B (R82). -/
def sourceSlot (b : Byte) : Option Slot := if b = 0x1A then some .int else if b = 0x1B then some .rear else none

/-- The item codes. -/
def itemCode : Item → Nat
  | .dyn i => 0x41 + dynIndex i
  | .ident i => 0x61 + idIndex i

/-- A byte that the part clocked; a byte that never came reads 0xFF on an open bus (PRESUMED: section 4.1 names the bus
open-drain; log entry 20). -/
def clocked (bytes : List Byte) (i : Nat) : Byte := bytes.getD i 0xFF

/-- The data bytes of a read: two for a word, the count and eight for SERIAL (R75). -/
def dataLength (i : Item) : Nat := if i = .ident .serial then 9 else 2

/-- How the part judges a read's bytes: none when the check matches, else the phase of the CHECK_FAIL (R76). -/
def checkFailure (k : Slot) (i : Item) (bytes : List Byte) : Option BusPhase :=
  if i = .ident .serial ∧ clocked bytes 0 ≠ 8 then some (.data 0)
  else
    let data := (List.range (dataLength i)).map (clocked bytes)
    if crc8 ([packAddress k, BitVec.ofNat 8 (itemCode i), packAddress k + 1] ++ data) = clocked bytes (dataLength i) then none
    else some .check

/-- The word of a word read. -/
def readWord (bytes : List Byte) : BitVec 16 := clocked bytes 1 ++ clocked bytes 0

/-! ### Slot states (R80, R85, R86, R87, R88) -/

/-- PACK_CHANGED with the wake that it stands for (R19, R85, R87). -/
def packChanged (k : Slot) (s : State) : State := wakeEvent .packChange (latch .packChanged (.slots (slotSet k)) s)

/-- The schedule starts to run: every polled item is due now (R90). -/
def startSchedule (k : Slot) (s : State) : State :=
  let t := s.mapPack k fun p => { p with items := p.items.map fun _ e => { e with lastEnd := s.now } }
  allDynItems.foldl (fun s i => if polled s k i then enqueue k (.dyn i) s.now s else s) t

/-- The first acceptance test that an identity fails (R87). -/
def rejectionOf (p : Policy) (d : Identity) : RejectionCause :=
  if d.designVoltage < acceptLowOf p ∨ acceptHighOf p < d.designVoltage then .designVoltage
  else if d.cellCount < 2 ∨ 4 < d.cellCount then .cellCount
  else if perCellMaxOf p * d.cellCount < d.chargeVoltageLimit then .chargeVoltageLimit
  else .none

/-- Acceptance or rejection of a complete identity (R87). -/
def acceptPack (k : Slot) (s : State) : State :=
  let cause := rejectionOf s.store.policy (s.pack k).draft
  let t := s.mapPack k fun p =>
    { p with identity := some p.draft, rejection := cause, state := if cause = .none then .active else .rejected }
  packChanged k (startSchedule k t)

/-- The identity item after one, in the order of R86. -/
def nextIdentity : IdItem → Option IdItem
  | .designCapacity => some .designVoltage
  | .designVoltage => some .cellCount
  | .cellCount => some .chargeVoltageLimit
  | .chargeVoltageLimit => some .maxDischargeCurrent
  | .maxDischargeCurrent => some .serial
  | .serial => some .cycleCount
  | .cycleCount => none

/-- The identity values with one more read. -/
def Identity.withItem (d : Identity) (i : IdItem) (bytes : List Byte) : Identity :=
  let w := (readWord bytes).toNat
  match i with
  | .designCapacity => { d with designCapacity := w }
  | .designVoltage => { d with designVoltage := w }
  | .cellCount => { d with cellCount := w }
  | .chargeVoltageLimit => { d with chargeVoltageLimit := w }
  | .maxDischargeCurrent => { d with maxDischargeCurrent := w }
  | .serial => { d with serial := (List.range 8).map fun j => clocked bytes (j + 1) }
  | .cycleCount => { d with cycleCount := w }

/-- A slot becomes COMM_LOST from the state it stood in, none for EMPTY and COMM_LOST itself. -/
def SlotState.asPrevious : SlotState → Option PreviousState
  | .identifying => some .identifying
  | .active => some .active
  | .rejected => some .rejected
  | .empty | .commLost => none

/-- The state a COMM_LOST slot returns to. -/
def PreviousState.state : PreviousState → SlotState
  | .identifying => .identifying
  | .active => .active
  | .rejected => .rejected

/-- A slot enters COMM_LOST; a running calibration of it ends (R80, R120). -/
def enterCommLost (k : Slot) (s : State) : State :=
  let t := s.mapPack k fun p => { p with previous := p.state.asPrevious, state := .commLost }
  if t.chg.cal.slot = some k then endCal .aborted (some .packFault) t else t

/-- Identification starts over after the retry time (R88). -/
def dropIdentity (k : Slot) (s : State) : State :=
  s.mapPack k fun p => { p with step := 0, draft := .blank, retry := some Config.identifyRetryMs }

/-- The state that a COMM_LOST slot returns to at an OK attempt, none for a slot that is not COMM_LOST (R80). -/
def PackSlot.returnsTo (p : PackSlot) : Option SlotState :=
  if p.state = .commLost then p.previous.map PreviousState.state else none

/-- An OK attempt clears the failures and returns a COMM_LOST slot to its previous state (R78, R80). -/
def returnFromLost (k : Slot) (s : State) : State :=
  s.mapPack k fun p =>
    match p.returnsTo with
    | some q => { p with failures := 0, state := q, previous := none }
    | none => { p with failures := 0 }

/-- The PACK_CHANGED of a return to ACTIVE or REJECTED, from the state the slot returns to (R80). -/
def announceReturn (k : Slot) (q : Option SlotState) (s : State) : State :=
  if q = some .active ∨ q = some .rejected then packChanged k s else s

/-! ### What a new value does in the charge controller (R107, R108, R112, R119, R120) -/

/-- The band that a temperature falls in. -/
def bandFor (t : Int) : Band :=
  if t < 0 then .coldHold else if t < 100 then .cold else if t ≤ 450 then .normal else if t ≤ 550 then .warm else .hotHold

/-- The band after a read, with the holds' hysteresis (R112). -/
def nextBand (now : Band) (t : Int) : Band :=
  match now with
  | .coldHold => if 20 ≤ t then bandFor t else .coldHold
  | .hotHold => if t ≤ 530 then bandFor t else .hotHold
  | _ => bandFor t

/-- A TEMPERATURE read of an ACTIVE slot: its band, and the THERMAL suspension of a calibration DISCHARGE (R112, R119). -/
def temperatureRead (k : Slot) (t : Int) (s : State) : State :=
  let u := s.mapChg fun c =>
    { c with packs := c.packs.set k { (c.packs.get k) with band := nextBand (c.packs.get k).band t } }
  if calIn u k .discharge then
    if 500 < t then suspend (fun x => { x with thermal := true }) u
    else if t ≤ 480 then suspend (fun x => { x with thermal := false }) u else u
  else u

/-- A VOLTAGE read in PRECHARGE or CONSTANT_CURRENT (R107, R108). -/
def voltageRead (k : Slot) (v : Nat) (s : State) : State :=
  match (s.chg.packs.get k).phase with
  | .precharge => if 3000 * cells s k ≤ v then changePack k (putPhase k .constantCurrent) s else s
  | .constantCurrent =>
    if s.chg.vSet ≤ v + 50 then
      changePack k (fun s => putPhase k .constantVoltage (s.mapChg fun c => { c with termination := 0 })) s
    else s
  | _ => s

/-- A CURRENT read in CONSTANT_VOLTAGE (R108). -/
def currentRead (k : Slot) (i : Int) (s : State) : State :=
  if (s.chg.packs.get k).phase = .constantVoltage then
    s.mapChg fun c =>
      { c with termination := if i < terminationOf s.store.policy then min 2 (c.termination + 1) else 0 }
  else s

/-- New status flags: a TERMINATE flag newly set against a calibration phase ends the cycle (R120). -/
def statusWritten (k : Slot) (old new : BitVec 8) (s : State) : State :=
  if (calIn s k .discharge && shows new terminateCharge && !shows old terminateCharge) ||
      (calIn s k .charge && shows new terminateDischarge && !shows old terminateDischarge) then
    endCal .aborted (some .packFault) s
  else s

/-- A read of REQUESTED_CURRENT or REQUESTED_VOLTAGE counts as made since the selection when it ends while the pack is
selected, a read already on the bus at the selection among them (R107; DESIGN CHOICE, log entry 39). -/
def requestRead (k : Slot) (i : DynItem) (s : State) : State :=
  if s.chg.selected = some k then
    s.mapChg fun c => { c with freshCurrent := c.freshCurrent || decide (i = .requestedCurrent),
                               freshVoltage := c.freshVoltage || decide (i = .requestedVoltage) }
  else s

/-- The charge controller's part of a successful read of an item. -/
def chargeRead (k : Slot) (i : DynItem) (old : BitVec 8) (w : BitVec 16) (s : State) : State :=
  match i with
  | .voltage => voltageRead k w.toNat s
  | .current => currentRead k w.toInt s
  | .status => statusWritten k old (flagsOf w) s
  | .temperature => if isActive s k then temperatureRead k w.toInt s else s
  | .requestedCurrent | .requestedVoltage => requestRead k i s
  | .rsoc | .remainingCapacity | .fullCapacity => s

/-! ### The end of a read (R78, R79, R90, R91, R95) -/

/-- The value of an item as it is stored: RSOC is at most 100 (R75). -/
def storedWord (i : DynItem) (w : BitVec 16) : BitVec 16 := if i = .rsoc ∧ 100 < w.toNat then 100 else w

/-- A dynamic value is stored: its age is 0 and it is valid, and STATUS writes the status flags (R91; a good alarm does the
same for STATUS, R83). -/
def storeItem (k : Slot) (i : DynItem) (w : BitVec 16) (s : State) : State :=
  let t := s.mapItem k i fun e => { e with value := some w, age := 0, valid := true }
  if i = .status then t.mapPack k fun p => { p with status := flagsOf w } else t

/-- The bus is free after a read; the fresh read's third read ends the fresh read (R95). -/
def freeBus (s : State) : State :=
  match s.bus.current, s.bus.fresh with
  | some r, some f =>
    if r.fresh && f.left.isEmpty then
      let t := s.mapBus fun b => { b with current := none, fresh := none }
      match t.link.processing with
      | some (.freshRead tag k _) => { t with link := { t.link with processing := some (.freshRead tag k true) } }
      | _ => t
    else s.mapBus fun b => { b with current := none }
  | _, _ => s.mapBus fun b => { b with current := none }

/-- A read of an item ends, in success or in failure: the bus is free, and a polled item's next due time runs from now (R90).
Whatever the end leads to finds the item read and not due. -/
def endRead (k : Slot) (i : Item) (s : State) : State :=
  match i with
  | .dyn d => (freeBus s).mapItem k d fun e => { e with lastEnd := s.now }
  | .ident _ => freeBus s

/-- A successful read of an item. The slot's return from COMM_LOST and the value stand before PACK_CHANGED and its wake, so
that what they settle finds the pack as it was read. -/
def readSucceeds (k : Slot) (i : Item) (bytes : List Byte) (s : State) : State :=
  let p := s.pack k
  let t := returnFromLost k (endRead k i s)
  packEvent (match i with
    | .dyn d =>
      let w := storedWord d (readWord bytes)
      testDischarge k (announceReturn k p.returnsTo (chargeRead k d p.status w (storeItem k d w t)))
    | .ident d =>
      let t := announceReturn k p.returnsTo
        (t.mapPack k fun p => { p with draft := p.draft.withItem d bytes, step := p.step + 1 })
      match nextIdentity d with
      | some n => enqueue k (.ident n) t.now t
      | none => acceptPack k t)

/-- The slot's change of state after a failed read (R79, R80, R88). -/
def afterFailure (k : Slot) (s : State) : State :=
  match (s.pack k).state, (s.pack k).previous with
  | .identifying, _ => dropIdentity k (enterCommLost k s)
  | .commLost, some .identifying => dropIdentity k s
  | .active, _ | .rejected, _ => if 5 ≤ (s.pack k).failures then enterCommLost k s else s
  | _, _ => s

/-- What a failed read leads to: the charge controller settles, and the energy status is judged where the slot has left its
state; a valid flag that changes is judged with the command (R121). -/
def settleFailure (k : Slot) (was : SlotState) (s : State) : State :=
  if (s.pack k).state = was then settleCharge s else packEvent s

/-- A failed read: fault record, counts, PACK_COMM_FAULT (R79). -/
def readFails (k : Slot) (i : Item) (phase : BusPhase) (outcome : FaultOutcome) (s : State) : State :=
  let t := (endRead k i s).mapPack k fun p =>
    { p with fault := some { slot := k, item := some i, phase := phase, outcome := outcome, attempts := 3,
                             time := time32 s.now },
             faultCount := min 255 (p.faultCount + 1), failures := min 5 (p.failures + 1) }
  settleFailure k (s.pack k).state (afterFailure k (latch .packCommFault (.slots (slotSet k)) t))

/-- A counted attempt: the third fails the read (R78). -/
def countAttempt (r : CurrentRead) (phase : BusPhase) (outcome : FaultOutcome) (s : State) : State :=
  if 3 ≤ r.attempts + 1 then readFails r.slot r.item phase outcome s
  else s.mapBus fun b => { b with current := some { r with attempts := r.attempts + 1, onWires := false } }

/-- A bus recovery (R77). -/
def recoverBus (s : State) : State := s.mapBus fun b => { b with recoveries := b.recoveries + 1 }

/-- The recovery that a TIMEOUT runs, whether or not the outcome counts. -/
def recoverAfter (result : AttemptResult) (s : State) : State :=
  match result with
  | .timeout _ => recoverBus s
  | _ => s

/-- An attempt on the wires ends (R77, R78, R85). -/
def endAttempt (result : AttemptResult) (s : State) : State :=
  match s.bus.current with
  | none => s
  | some r =>
    if !r.onWires then s
    else
      let t := recoverAfter result s
      if r.discard then t.mapBus fun b => { b with current := none }
      else match result with
        | .received bytes =>
          match checkFailure r.slot r.item bytes with
          | none => readSucceeds r.slot r.item bytes t
          | some phase => countAttempt r phase .checkFail t
        | .nackAddress => countAttempt r .address .nackAddress t
        | .nackData => countAttempt r .command .nackData t
        | .timeout phase => countAttempt r phase .timeout t
        | .arbLost => t.mapBus fun b => { b with current := some { r with onWires := false } }

/-- The next read to take: the fresh read's, else the first of the queue (R92, R95). -/
def takeRead (s : State) : Option (CurrentRead × Bus) :=
  match s.bus.current with
  | some r => if r.onWires then none else some ({ r with onWires := true }, s.bus)
  | none =>
    match s.bus.fresh with
    | some { slot, left := d :: rest } =>
      some (⟨slot, .dyn d, 0, true, false, true⟩, { s.bus with fresh := some { slot := slot, left := rest } })
    | _ =>
      match s.bus.queue with
      | [] => none
      | e :: rest => some (⟨e.slot, e.item, 0, true, false, false⟩, { s.bus with queue := rest })

/-- An attempt starts on the free bus, of the read in progress or of the next one (R78, R92). -/
def startAttempt (s : State) : State :=
  match takeRead s with
  | none => s
  | some (r, b) => { s with bus := { b with current := some r } }

/-! ### Presence (R85) -/

/-- The bus at a presence fall: the slot's entries and fresh read leave it, and an attempt on the wires is discarded. A read in
progress that stands between two attempts is dropped at once (DESIGN CHOICE: R85 discards the outcome of a read in flight and
says nothing of one with no attempt on the wires; log entry 53). -/
def Bus.withoutSlot (b : Bus) (k : Slot) : Bus :=
  { b with queue := b.queue.filter fun e => decide (e.slot ≠ k),
           fresh := b.fresh.filter fun f => decide (f.slot ≠ k),
           current :=
             match b.current with
             | none => none
             | some r => if r.slot = k then (if r.onWires then some { r with discard := true } else none) else some r }

/-- A fresh read in processing for the slot ends with NODATA (R85, R95). -/
def endFreshRead (k : Slot) (s : State) : State :=
  match s.link.processing with
  | some (.freshRead tag j _) => if j = k then finishProcessing 0x40 tag .noData [] s else s
  | _ => s

/-- A slot becomes EMPTY (R85, R106, R120). -/
def emptySlot (k : Slot) (s : State) : State :=
  let t := endFreshRead k ((s.mapPack k fun _ => .cleared).mapBus fun b => b.withoutSlot k)
  let t := if t.chg.cal.slot = some k then endCal .aborted (some .packRemoved) t else t
  let t := changePack k (fun s => s.mapChg fun c => { c with packs := c.packs.set k .cleared }) t
  packEvent (packChanged k t)

/-- A slot becomes IDENTIFYING with its first item due (R86). -/
def insertPack (k : Slot) (s : State) : State :=
  let t := s.mapPack k fun _ => { PackSlot.cleared with state := .identifying }
  packEvent (enqueue k (.ident .designCapacity) t.now t)

/-! ### Alarms (R82, R83) -/

/-- A good alarm. -/
def goodAlarm (k : Slot) (w : BitVec 16) (s : State) : State :=
  let t := storeItem k .status w (s.mapPack k fun p => { p with alarm := flagsOf w })
  let t := if flagsOf w = 0 then t else latch .packAlarm (.packAlarm (slotSet k) (flagsOf w)) t
  packEvent (testDischarge k (statusWritten k (s.pack k).status (flagsOf w) t))

/-- A bad alarm is charged to its source. -/
def badAlarm (k : Slot) (s : State) : State :=
  s.mapPack k fun p =>
    { p with fault := some { slot := k, item := none, phase := .check, outcome := .checkFail, attempts := 1,
                             time := time32 s.now },
             faultCount := min 255 (p.faultCount + 1) }

/-- The slot that a message is charged to: the source when it names one that is not EMPTY. -/
def alarmSource (s : State) (bytes : List Byte) : Option Slot :=
  match bytes with
  | [] => none
  | b :: _ => (sourceSlot b).filter fun k => decide ((s.pack k).state ≠ .empty)

/-- The flag word of a message with exactly its four bytes and a matching check. -/
def alarmWord : List Byte → Option (BitVec 16)
  | [src, lo, hi, check] => if crc8 [0x20, src, lo, hi] = check then some (hi ++ lo) else none
  | _ => none

/-- A message whose stop has arrived is judged. -/
def judgeAlarm (bytes : List Byte) (s : State) : State :=
  match alarmSource s bytes with
  | none => s
  | some k =>
    match alarmWord bytes with
    | some w => goodAlarm k w s
    | none => badAlarm k s

/-! ### Times of the poll schedule (R88, R90, R91) -/

/-- An item comes due. -/
def itemDue (k : Slot) (i : DynItem) (s : State) : State :=
  if scheduleRuns (s.pack k) && polled s k i then enqueue k (.dyn i) (min (nextDue s k i) s.now) s else s

/-- A valid item goes stale. -/
def itemStale (k : Slot) (i : DynItem) (s : State) : State :=
  if (s.item k i).valid then
    let t := s.mapItem k i fun e => { e with age := max e.age (3 * period s k i + 1), valid := false }
    packEvent (testDischarge k t)
  else s

/-- The identification retry runs out. -/
def retryIdentity (k : Slot) (s : State) : State :=
  match (s.pack k).retry with
  | none => s
  | some _ => enqueue k (.ident .designCapacity) s.now (s.mapPack k fun p => { p with retry := none })

/-! ### The host fresh read (R95) -/

/-- The three items of the fresh read. -/
def freshItems : List DynItem := [.voltage, .current, .status]

/-- The fresh read takes its place at the head of the queue. -/
def placeFreshRead (k : Slot) (s : State) : State :=
  let t := dequeueWhere (fun e => decide (e.slot = k) && freshItems.any fun d => decide (e.item = .dyn d)) s
  t.mapBus fun b => { b with fresh := some { slot := k, left := freshItems } }

end Sys2Proof.Machine
end

