-- ==== Sys2Proof/Machine/Budget.lean ====
section
/-! DEFINITION. The budget unit: its inputs, the eight stages of an evaluation, and what an evaluation hands to the charge
controller and the notice unit. -/
namespace Sys2Proof.Machine

/-! ### Inputs and supply (R126, R128, R129) -/

/-- class_W as the budget reads it: 0 while the bypass is ON (R126). -/
def budgetWatts (s : State) : Nat := if s.chg.adapter.bypass then 0 else classWatts s.chg.adapter

/-- The supply A in mW (R128). -/
def supplyPower (s : State) : Nat := budgetWatts s * 1000 * derateOf s.store.policy / 1000

/-- The base load B (R126). -/
def baseLoad (s : State) : Nat := if s.pwr.state.running then bRunOf s.store.policy else bIdleOf s.store.policy

/-- V: the selected pack's valid VOLTAGE, 0 during a switch-over (R126). -/
def packVoltage (s : State) : Nat :=
  match s.chg.selected with
  | none => 0
  | some k => if s.chg.switchOver.isSome then 0 else (validValue s k .voltage).getD 0

/-- The source pack that stage 2 measures: the supply when it is a pack, else the discharge pack (R129). -/
def sourcePack (s : State) : Option Slot :=
  match s.chg.supply with
  | .pack k => some k
  | _ => s.chg.discharge

/-- D is computed without the adapter, with the bypass ON, or with boost and RSOC at its floor (R129). -/
def boostCounts (s : State) (k : Slot) : Bool :=
  !s.chg.adapter.present || s.chg.adapter.bypass ||
    (s.bud.boost &&
      (match validValue s k .rsoc with
        | some r => decide (boostFloorOf s.store.policy ≤ r)
        | none => false))

/-- The temperature factor in ‰ (R129). -/
def temperatureFactor (s : State) (k : Slot) : Nat :=
  match validInt s k .temperature with
  | none => 500
  | some t => if t < 0 then 500 else if t < 100 then 750 else 1000

/-- D in mW (R129). MAX_DISCHARGE_CURRENT counts as an unsigned number (DESIGN CHOICE, log entry 56). -/
def boostPower (s : State) : Nat :=
  match sourcePack s with
  | none => 0
  | some k =>
    if boostCounts s k then
      match validValue s k .voltage, (s.pack k).identity with
      | some v, some d => min 65535 (v * d.maxDischargeCurrent / 1000) * temperatureFactor s k / 1000
      | _, _ => 0
    else 0

/-! ### The charge (R130, R131, R133, R134) -/

/-- The numbers that the allocation stages work from. -/
structure BudgetTerms where
  a : Nat
  d : Nat
  h : Nat
  b : Nat
  share : Nat
  v : Nat
  q : Nat
  floor : Nat
  top : Nat
  backoff : Nat
  /-- The platform is in a running state. -/
  running : Bool
  /-- The processor is served before the charge: PERFORMANCE_FIRST in a running state. -/
  processorFirst : Bool
  precharge : Bool
  deriving DecidableEq, Repr

/-- Q, saturating at 65,535 mW (R130). -/
def chargeRequest (s : State) : Nat := min 65535 (packVoltage s * requestOf s / 1000)

/-- The power that the heat limit leaves for a charge above a load, none when h is 0 (R130, R133). -/
def heatRoom (h load share : Nat) : Option Nat := if share = 0 then none else some ((h - load) * 1000 / share)

/-- The smaller of a number and a room that may be unlimited. -/
def minRoom (n : Nat) : Option Nat → Nat
  | none => n
  | some r => min n r

/-- I_chg in charger steps (R131). -/
def chargeCurrent (v p : Nat) (precharge : Bool) : Nat :=
  if p = 0 ∨ v = 0 then 0
  else if precharge then if v * 128 / 1000 ≤ p then 128 else 0
  else
    let i := min 4032 (p * 1000 / v / 64 * 64)
    if i < 128 then 0 else i

/-- P_alloc (R132, R133, R134). -/
def allocation (t : BudgetTerms) (pEff : Nat) : Int :=
  min ((t.a : Int) + t.d - t.b - pEff) ((t.h : Int) - t.b - (pEff * t.share / 1000 : Nat))

/-- P_proc before any backoff, with the short flag (R137). -/
def processorShare (t : BudgetTerms) (alloc : Int) : Nat × Bool :=
  if alloc < t.floor then (t.floor, true) else (min t.top (alloc.toNat / 250 * 250), false)

/-- The load that the charge's rooms leave to the processor: F, or P_proc when the processor is served first. -/
def reservedPower (t : BudgetTerms) : Nat := if t.processorFirst then (processorShare t (allocation t 0)).1 else t.floor

/-- The supply term of the charge. -/
def supplyRoom (t : BudgetTerms) : Nat := t.a - t.b - reservedPower t

/-- The heat term of the charge. -/
def chargeHeatRoom (t : BudgetTerms) : Option Nat := heatRoom t.h (t.b + reservedPower t) t.share

/-- P_chg: 0 while the backoff is above 0 (R136). -/
def chargePower (t : BudgetTerms) : Nat :=
  if 0 < t.backoff then 0 else minRoom (min t.q (supplyRoom t)) (chargeHeatRoom t)

/-- I_chg and P_eff of an evaluation (R131). -/
def grantedCurrent (t : BudgetTerms) : Nat := chargeCurrent t.v (chargePower t) t.precharge
def effectivePower (t : BudgetTerms) : Nat := t.v * grantedCurrent t / 1000

/-- P_proc before the backoff, and the short flag. Outside the running states P_proc holds F (R134, R137). -/
def processorPower (t : BudgetTerms) : Nat × Bool :=
  let share := processorShare t (allocation t (if t.processorFirst then 0 else effectivePower t))
  if t.running then share else (t.floor, share.2)

/-- P_proc lowered by the backoff, not below F (R136). -/
def limitedPower (t : BudgetTerms) : Nat := max t.floor ((processorPower t).1 - t.backoff)

/-- The limiting term of the charge (R138). -/
def limitingTerm (t : BudgetTerms) : LimitingTerm :=
  if t.q = 0 then .none
  else if 0 < t.backoff then .overload
  else if 0 < chargePower t ∧ grantedCurrent t = 0 then .stepMin
  else if chargePower t = t.q then .request
  else if chargePower t = supplyRoom t then .supply
  else .heat

/-! ### Overload (R135) -/

/-- Overload count and backoff after the update from the latest samples. -/
def overloadUpdate (a measured count backoff : Nat) : Nat × Nat :=
  if a = 0 then (0, 0)
  else if a < measured then
    (min 3 (count + 1), if 3 ≤ count + 1 then min 100000 (backoff + 2000) else backoff)
  else if a * 95 ≤ measured * 100 then (0, backoff)
  else (0, backoff - 500)

/-- The measured input power. -/
def measuredPower (s : State) : Nat := s.chg.adapter.vin * s.chg.adapter.iin / 1000

/-- The overload state that this evaluation's update gives. -/
def nextOverload (s : State) : Nat × Nat := overloadUpdate (supplyPower s) (measuredPower s) s.bud.overload s.bud.backoff

/-- Overload begins: the count goes from 2 to 3. -/
def overloadBegins (s : State) : Bool := decide (s.bud.overload < 3) && decide ((nextOverload s).1 = 3)

/-! ### The evaluation (R125) -/

/-- The selected pack is in PRECHARGE. -/
def inPrecharge (s : State) : Bool :=
  match s.chg.selected with
  | none => false
  | some k => decide ((s.chg.packs.get k).phase = .precharge)

/-- The terms of an evaluation taken now, after the overload update. -/
def budgetTerms (s : State) : BudgetTerms :=
  { a := supplyPower s, d := boostPower s, h := s.thr.h, b := baseLoad s, share := heatShareOf s.store.policy,
    v := packVoltage s, q := chargeRequest s, floor := processorFloor s.store.policy, top := processorMax s.store.policy,
    backoff := (nextOverload s).2, running := s.pwr.state.running,
    processorFirst := s.pwr.state.running && decide (s.bud.mode = .performanceFirst), precharge := inPrecharge s }

/-- The limit to report: P_proc when it fell or rose by 500 or more, else the one held (R139). -/
def reportedLimit (r p : Nat) : Nat := if p < r ∨ r + 500 ≤ p then p else r

/-- The record that an evaluation writes. -/
def Budget.evaluated (b : Budget) (t : BudgetTerms) (count now : Nat) : Budget :=
  { b with a := t.a, d := t.d, h := t.h, b := t.b, heatShare := t.share, q := t.q, pChg := chargePower t,
           iChg := grantedCurrent t, pEff := effectivePower t, pProc := limitedPower t, r := reportedLimit b.r (limitedPower t),
           short := (processorPower t).2, overload := count, backoff := t.backoff, limiting := limitingTerm t, evalAt := now }

/-- The events of an evaluation: ADAPTER_OVERLOAD, BUDGET_SHORT or its end, PROCESSOR_LIMIT (R135, R137, R139). -/
def budgetEvents (old new : Budget) (begins : Bool) (s : State) : State :=
  let s := if begins then latch .adapterOverload .empty s else s
  let s :=
    if new.short && !old.short then latch .budgetShort .empty s
    else if old.short && !new.short then endCondition .budgetShort s else s
  if new.r = old.r then s else latch .processorLimit (.processorLimit new.r) s

/-- A session that asks for current and was granted none is held with cause BUDGET (R111). -/
def budgetHold (s : State) : State :=
  match s.chg.selected with
  | none => s
  | some k =>
    if s.bud.iChg = 0 ∧ 0 < requestOf s ∧
        ((s.chg.packs.get k).phase = .precharge ∨ (s.chg.packs.get k).phase = .constantCurrent ∨
          (s.chg.packs.get k).phase = .constantVoltage) then
      s.mapChg fun c => { c with hold := { c.hold with budget := true }, budgetRetry := some Config.budgetRetryMs }
    else s

/-- One evaluation. -/
def evaluateBudget (s : State) : State :=
  let new := s.bud.evaluated (budgetTerms s) (nextOverload s).1 s.now
  settleCharge (budgetHold (budgetEvents s.bud new (overloadBegins s) (s.mapBud fun _ => new)))

/-- F or Pmax moved by a policy write: R is brought between them, with PROCESSOR_LIMIT when it changes (R127). -/
def boundLimit (s : State) : State :=
  let r := clampNat (processorFloor s.store.policy) (processorMax s.store.policy) s.bud.r
  if r = s.bud.r then s else latch .processorLimit (.processorLimit r) (s.mapBud fun b => { b with r := r })

end Sys2Proof.Machine
end

