-- ==== Sys2Proof/Machine/ThermalEvents.lean ====
section
/-! DEFINITION. The thermal controller's events: what changed crossings lead to, a conversion round, the end of a tach
window. -/
namespace Sys2Proof.Machine

/-- A change of the set of tripped sensors (R148, R156, R175). The set is compared once for a round, before and after it, so
a round in which one TRIP clears and another sets neither ends nor begins the condition (DESIGN CHOICE, log entry 42). -/
def noticeTrip (old : State) (s : State) : State :=
  if trippedSet s = trippedSet old then s
  else if tripHolds s then
    let t := latch .thermalTrip (.sensors (trippedSet s)) s
    if tripHolds old then t else fansFull (startWindow .thermalTrip t)
  else setWindow .thermalTrip none (endCondition .thermalTrip s)

/-- The start or the end of HARD reaches the charge controller, and its start the sequencer (R22, R110, R149). The set of hard
sensors is compared once for a round, before it and after it, so a round in which one HARD clears and another sets neither
ends nor begins the condition (DESIGN CHOICE, log entry 46). -/
def handHard (old : State) (s : State) : State :=
  if hardHolds s = hardHolds old then s
  else if hardHolds s then force .thermalHard (settleCharge s) else settleCharge s

/-- The effects of crossings judged since an earlier state (R148, R149, R150, R155). A floor condition that a policy write
begins outside the running states, with a fan STALLED, raises the fans to the safe floor here, and the stall override it
starts acts at the next fan control step (R156, R161; DESIGN CHOICE, log entry 47). -/
def afterCrossings (old : State) (s : State) : State := handHard old (computeH (raiseToFloor (noticeTrip old s)))

/-- The four conversions of a round (R144). -/
def convertRound (soc charger deck base : Nat) (s : State) : State :=
  convertSensor .base base (convertSensor .deck deck (convertSensor .charger charger (convertSensor .soc soc s)))

/-- One conversion round with its fan control step (R144). -/
def conversionRound (soc charger deck base : Nat) (s : State) : State :=
  fanStep (afterCrossings s (judgeSensors (convertRound soc charger deck base s)))

/-- Thermal values moved by a policy write: the crossings are judged again (R162). -/
def rejudgeThermal (s : State) : State := afterCrossings s (judgeSensors s)

/-! ### Tach windows (R159, R160) -/

/-- A RUNNING fan at a window's end. -/
def FanRec.judgeStall (f : FanRec) (rpm : Nat) : FanRec :=
  if f.windowOk && decide (rpm < 300) then
    if 3 ≤ f.stallCount + 1 then { f with rpm := rpm, stalled := true, stallCount := 0, recoveryCount := 0 }
    else { f with rpm := rpm, stallCount := f.stallCount + 1 }
  else { f with rpm := rpm, stallCount := 0 }

/-- A STALLED fan at a window's end. -/
def FanRec.judgeRecovery (f : FanRec) (rpm : Nat) : FanRec :=
  if 300 ≤ rpm then
    if 2 ≤ f.recoveryCount + 1 then { f with rpm := rpm, stalled := false, stallCount := 0, recoveryCount := 0 }
    else { f with rpm := rpm, recoveryCount := f.recoveryCount + 1 }
  else { f with rpm := rpm, recoveryCount := 0 }

/-- A fan at a window's end: two pulses a revolution in 1 s give pulses × 30 rpm. -/
def FanRec.windowEnd (f : FanRec) (pulses : Nat) : FanRec :=
  if f.stalled then f.judgeRecovery (pulses * 30) else f.judgeStall (pulses * 30)

/-- The stall states of both fans. -/
def stallSet (s : State) : PerFan Bool := ⟨s.thr.fans.a.stalled, s.thr.fans.b.stalled⟩

/-- A changed stall state: FAN_FAULT, H, and both fans at 100% at once where the stall override holds (R154, R160). The
override is worked out at the window's end, in the platform state of that moment, not with the targets of the last fan
step (R161; DESIGN CHOICE, log entry 43). -/
def afterStall (old : State) (s : State) : State :=
  if stallSet s = stallSet old then s
  else
    let t := computeH (latch .fanFault (.fanFault (stallSet s)) s)
    if stallOverride t then fansFull t else t

/-- The next window starts with the duty commanded now. -/
def openWindow (s : State) : State := s.mapFans fun _ f => { f with windowOk := decide (20 ≤ f.commanded) }

/-- Both fans' windows end. -/
def tachWindow (pulsesA pulsesB : Nat) (s : State) : State :=
  openWindow (afterStall s (s.mapFans fun fan f => f.windowEnd (match fan with | .a => pulsesA | .b => pulsesB)))

end Sys2Proof.Machine
end

