-- ==== Sys2Proof/Machine/Matrix.lean ====
section
/-! DEFINITION. A scan of the key matrix: debounce, releases, presses, ghost test, hotkeys, wake test and the re-check of the
blocked set. -/
namespace Sys2Proof.Machine

/-! ### Debounce (R50) -/

/-- A position's record after a scan's raw state. -/
def PosRec.scanned (r : PosRec) (press release : Nat) (raw : Bool) : PosRec :=
  if raw = r.pressed then { r with count := 0 }
  else if (if r.pressed then release else press) ≤ r.count + 1 then { r with pressed := raw, count := 0 }
  else { r with count := r.count + 1 }

/-- Every position's record after a scan. -/
def debounce (raw : Nat → Bool) (s : State) : State :=
  (List.range 128).foldl (fun t p =>
    setPosition p ((t.position p).scanned (pressCountOf s.store.policy) (releaseCountOf s.store.policy) (raw p)) t) s

/-- The positions that a scan released, and those that it pressed, ascending. -/
def releasedIn (old new : State) : List Nat :=
  (List.range 128).filter fun p => (old.position p).pressed && !(new.position p).pressed
def pressedIn (old new : State) : List Nat :=
  (List.range 128).filter fun p => !(old.position p).pressed && (new.position p).pressed

/-! ### Ghosts (R51) -/

/-- Membership of the pressed set of the ghost test. -/
def inPressedSet (s : State) (p : Nat) : Bool := (s.position p).pressed && !(keyInForce s p).modifier

/-- A press closes a rectangle of pressed positions. -/
def closesRectangle (s : State) (p : Nat) : Bool :=
  (List.range 16).any fun d => (List.range 8).any fun n =>
    decide (d ≠ p / 8) && decide (n ≠ p % 8) && inPressedSet s (p / 8 * 8 + n) && inPressedSet s (d * 8 + p % 8) &&
      inPressedSet s (d * 8 + n)

/-- The ghost test blocks a press; a MODIFIER position is never blocked. -/
def ghostBlocks (s : State) (p : Nat) : Bool := !(keyInForce s p).modifier && closesRectangle s p

/-! ### Accepted presses (R56, R57, R58, R59) -/

/-- The backlight level steps and the dimmed flag clears (R70, R71). -/
def stepBacklight (s : State) : State := undim (s.mapKbd fun k => { k with level := if 3 ≤ k.level then 0 else k.level + 1 })

/-- A hotkey action applied by its owner, with HOTKEY and the resulting setting (R58). -/
def runHotkey (a : HotkeyAction) (s : State) : State :=
  match a with
  | .none => s
  | .fanBoost => let t := toggleBoost s; latch .hotkey (.hotkey a t.thr.mode.index 0) t
  | .fanQuiet => let t := toggleQuiet s; latch .hotkey (.hotkey a t.thr.mode.index 0) t
  | .backlightStep => let t := stepBacklight s; latch .hotkey (.hotkey a t.kbd.level 0) t
  | .chargeLimitToggle => let t := toggleLimits s; latch .hotkey (.hotkey a t.chg.stop t.chg.start) t

/-- The code and layer of a reported press (R57). -/
def codeAndLayer (s : State) (e : KeyEntry) : Byte × Layer :=
  if fnHeld s ∧ e.fn ≠ 0 then (e.fn, .fn) else (e.base, .base)

/-- A reported press goes to the held-key table, or takes ROLLOVER when it is full (R59). -/
def reportPress (p : Nat) (code : Byte) (layer : Layer) (s : State) : State :=
  if s.kbd.held.length < 12 then
    pushRecord code .press layer
      (setDisposition p .reported (s.mapKbd fun k => { k with held := k.held ++ [⟨p, code, layer⟩] }))
  else latch .keyRollover .empty (setDisposition p .rollover s)

/-- An accepted press by its keymap entry in force (R53, R56). -/
def acceptPress (p : Nat) (s : State) : State :=
  let e := keyInForce s p
  let t := undim s
  if e.fnKey then setDisposition p .fn t
  else if e.base = 0 then setDisposition p .ignored t
  else if e.hotkey ≠ .none ∧ fnHeld t ∧ t.kbd.route = .scanner then setDisposition p .hotkey (runHotkey e.hotkey t)
  else reportPress p (codeAndLayer t e).1 (codeAndLayer t e).2 t

/-! ### Presses and releases of a scan (R60, R66, R68, R71) -/

/-- A press is a wake press (R68). -/
def wakePress (s : State) (p : Nat) : Bool :=
  (decide (s.pwr.state = .sleepEntry) || decide (s.pwr.state = .sleep)) && (keyInForce s p).wake &&
    decide (s.post.posture = .laptop) && s.kbd.enabled && !ghostBlocks s p

/-- A debounced press taken under suppression is LATENT, and may wake the platform (R66, R68). -/
def latentPress (p : Nat) (s : State) : State :=
  let t := setDisposition p .latent s
  if wakePress s p then wakeEvent .keyboard t else t

/-- A debounced press. -/
def takePress (p : Nat) (s : State) : State :=
  let t := restartIdle (undim s)
  if t.kbd.suppressed then latentPress p t
  else if ghostBlocks t p then setDisposition p .blocked t
  else acceptPress p t

/-- The RELEASE record of a REPORTED position, whose held-key entry leaves the table (R60). -/
def releaseReported (p : Nat) (s : State) : State :=
  match s.kbd.held.find? fun h => decide (h.position = p) with
  | none => s
  | some h =>
    pushRecord h.code .release h.layer (s.mapKbd fun k => { k with held := k.held.filter fun x => decide (x.position ≠ p) })

/-- A debounced release (R60, R66). -/
def takeRelease (p : Nat) (s : State) : State :=
  let t := restartIdle s
  setDisposition p .free
    (if t.kbd.suppressed = false ∧ (t.position p).disposition = .reported then releaseReported p t else t)

/-- A blocked position that no longer closes a rectangle is handled as an accepted press (R52). It clears the dimmed flag (R56) and
leaves the idle timer as it stands, stopped after a dimming (DESIGN CHOICE: R71 restarts the timer at debounced presses and
does not say whether a press accepted at the re-check is one; log entry 57). -/
def recheck (p : Nat) (s : State) : State := if ghostBlocks s p then s else acceptPress p s

/-- The quiet time is 0 after a scan that finds a position pressed or a count running (R49). -/
def judgeQuiet (s : State) : State :=
  if s.kbd.positions.isEmpty then s else s.mapKbd fun k => { k with quiet := 0 }

/-- One scan: debounce, releases, presses, re-check, each in ascending position order (R50). -/
def scanMatrix (raw : Nat → Bool) (s : State) : State :=
  let t := debounce raw s
  let u := (releasedIn s t).foldl (fun u p => takeRelease p u) t
  let u := (pressedIn s t).foldl (fun u p => takePress p u) u
  let u := (blockedSet u).foldl (fun u p => recheck p u) u
  restInSleep (judgeQuiet u)

end Sys2Proof.Machine
end

