-- ==== Sys2Proof/Machine/Ops.lean ====
section
/-! DEFINITION. The operations that whole commands are made of: an event with the pins that follow it, a setting request, the
cold start, the warm reset and the completion of a policy write. -/
namespace Sys2Proof.Machine

/-- A command that changed a valid flag while the adapter is ABSENT is followed by a judgement of the energy status
(R121, log entry 27). -/
def judgeFlags (before after : State) : State :=
  if after.chg.adapter.present ∨
      (validFlags after .int = validFlags before .int ∧ validFlags after .rear = validFlags before .rear) then after
  else judgeEnergy after

/-- An event inside the part or on a pin: its effect, the energy status, and the pins after it. -/
def event (s : State) (effect : State → State) : Host.Outcome State Fault Refusal :=
  .next (refreshPins (judgeFlags s (effect s)))

/-- A request that can change state: its answer, the energy status, and the pins after it. -/
def setting (s : State) (answer : State → State) : Host.Outcome State Fault Refusal :=
  request s fun s => refreshPins (judgeFlags s (answer s))

/-! ### Cold start (R194 and the Reset column of every chapter) -/

/-- The store as the part's power finds it: a WRITE_POLICY that was programming leaves its block torn, and a marker write
cut short reads clear (R24, R197). -/
def storedAtPowerUp (markerCut : Bool) (s : State) : Store :=
  { s.store with
    marker := s.store.marker && !markerCut,
    image :=
      match s.link.processing with
      | some (.writePolicy _ offset data _) =>
        match writeBlock offset data.length with
        | some b => tornImage s.free b s.store.image
        | none => s.store.image
      | _ => s.store.image }

/-- The store after the cold-start load (R193, R194). -/
def Store.loaded (c : Store) : Store :=
  { c with protectedValid := blockValid c.image .prot, generalValid := blockValid c.image .general,
           policy := loadPolicy c.image (blockValid c.image .prot) (blockValid c.image .general) }

/-- The sequencer after a cold reset; the power-good inputs are as they were last seen (R2, R3, R17). -/
def Sequencer.cold (p : Policy) (rails : PerRail RailEntry) : Sequencer :=
  { State.reset.pwr with
    rails := { mem := .afterReset rails.mem.good, io := .afterReset rails.io.good, core := .afterReset rails.core.good,
               periph := .afterReset rails.periph.good, disp := .afterReset rails.disp.good },
    wakeSet := p.wakeDefault }

/-- The thermal controller after a cold reset (R143, R150, R151; log entry 8). -/
def Thermal.cold (p : Policy) : Thermal :=
  { sensors := { soc := .afterReset (hMinOf p), charger := .afterReset (hMinOf p), deck := .afterReset (hMinOf p),
                 base := .afterReset (hMinOf p) },
    h := hMinOf p, hMaxEff := hMaxOf p, limiting := .soc, fans := { a := .afterReset, b := .afterReset },
    mode := p.fanModeDefault, holdOver := false }

/-- Every block at its cold-reset values over a store that has been loaded; the waiting commands stay. -/
def coldState (pending : List Instr) (free : Nat) (rails : PerRail RailEntry) (c : Store) : State :=
  { pending := pending, now := 0, free := free,
    pwr := .cold c.policy rails,
    post := State.reset.post,
    kbd := { State.reset.kbd with enabled := c.policy.keyboardDefault, route := c.policy.routeDefault,
                                  level := min 3 c.policy.backlightDefault },
    packs := State.reset.packs,
    bus := State.reset.bus,
    chg := { State.reset.chg with stop := (clampLimits c.policy.stopDefault c.policy.startDefault).1,
                                  start := (clampLimits c.policy.stopDefault c.policy.startDefault).2 },
    bud := { State.reset.bud with pProc := processorFloor c.policy, r := processorFloor c.policy,
                                  mode := c.policy.modeDefault, boost := c.policy.boostDefault },
    thr := .cold c.policy,
    notice := State.reset.notice,
    link := State.reset.link,
    store := c,
    pins := State.reset.pins }

/-- The part's own power appears. -/
def coldStart (markerCut : Bool) (s : State) : State :=
  coldState s.pending (s.free + 1) s.pwr.rails (storedAtPowerUp markerCut s).loaded

/-! ### Warm reset (R186) -/

/-- The notice unit's warm reset: table and floor as after a cold reset, windows kept, standing conditions latched again
(R178). -/
def noticeWarmReset (s : State) : State := latchStanding { s with notice := { s.notice with table := freshTable, floor := 0 } }

/-- The warm reset of every block. The scanner comes last, so that its KEY_AVAILABLE is pending at the end (R72). -/
def warmReset (s : State) : State :=
  let t := { s with link := { s.link with slot := .afterReset } }
  let t := t.mapPwr fun p => { p with wakeSet := s.store.policy.wakeDefault }
  keyboardWarmReset (noticeWarmReset (resetFanMode (budgetDefaults t)))

/-! ### Policy writes (R196) -/

/-- The stored bytes and the active policy after a write completes. -/
def storeWrite (b : Block) (offset : Nat) (data : List Byte) (c : Store) : Store :=
  { c with image := writeImage b c.image offset data,
           policy := writeActive b (writeImage b c.image offset data) offset data.length c.policy }

/-- Every block applies the new values (R102, R110, R111, R127, R162). -/
def applyPolicy (s : State) : State := settleCharge (rejudgeThermal (boundLimit s))

/-- A WRITE_POLICY completes: storage, active policy, the blocks, and the final response. -/
def completeWrite (tag : Byte) (offset : Nat) (data : List Byte) (s : State) : State :=
  match writeBlock offset data.length with
  | none => s
  | some b =>
    let clamped := writeClamps b s.store.image offset data
    let t := applyPolicy (s.mapStore (storeWrite b offset data))
    finishProcessing 0x61 tag (okOrClamped clamped) (le16 offset ++ t.store.image.readBytes offset data.length) t

end Sys2Proof.Machine
end

