-- ==== Sys2Proof/WellFormed.lean ====
section
/-! DEFINITION. Which command terms the outside can send: the operands of a row that its rule bounds. The meanings are
total, so an ill-formed term still has one; the checks say which terms stand for something real. -/
namespace Sys2Proof

/-- WRITE_POLICY carries 1 to 48 data bytes (R185, R196). -/
def wfPolicyData (data : List Byte) : Bool := decide (1 ≤ data.length ∧ data.length ≤ 48)

/-- The START row's operation byte is 0, or outside the five operations (R116). -/
def wfStartOperation (operation : Byte) : Bool := decide (operation.toNat = 0 ∨ 4 < operation.toNat)

/-- A refused frame has at least one byte (R180) and fails one of R181's tests. -/
def wfFrameError (bytes : List Byte) : Bool := decide (bytes ≠ []) && (frameRefusal bytes).isSome

/-- The part clocks at most a count byte, eight data bytes and the check byte (R75). -/
def wfAttemptResult : AttemptResult → Bool
  | .received bytes => decide (bytes.length ≤ 10)
  | _ => true

/-- The well-formed commands. -/
def Instr.wellFormed : Instr → Bool
  | .frameError bytes => wfFrameError bytes
  | .writePolicy _ _ data => wfPolicyData data
  | .calibrationStart _ operation _ => wfStartOperation operation
  | .packAttemptEnd result => wfAttemptResult result
  | _ => true

end Sys2Proof
end

