-- ==== Sys2Proof/Machine/LinkCommands.lean ====
section
/-! DEFINITION. Meanings of the commands of the link controller and of the notice unit. -/
namespace Sys2Proof.Machine

/-- COLD_RESET (R194). -/
def execColdReset (markerCut : Bool) (s : State) : Host.Outcome State Fault Refusal := .next (refreshPins (coldStart markerCut s))

/-- EMPTY_WRITE: acknowledged and ignored (R180). -/
def execEmptyWrite (s : State) : Host.Outcome State Fault Refusal := .next s

/-- ADDRESS_NAK: the write ends at its address byte (R183). -/
def execAddressNak (s : State) : Host.Outcome State Fault Refusal := .next s

/-- A refused frame's answer; every BADLEN latches LINK_ERROR (R181). -/
def answerBadFrame (bytes : List Byte) (refusal : FrameRefusal) (s : State) : State :=
  match refusal with
  | .badKind => refuse (byteAt bytes 0) (byteAt bytes 1) .badKind s
  | .badLen => latch .linkError .empty (refuse (byteAt bytes 0) (byteAt bytes 1) .badLen s)

/-- FRAME_ERROR (R181). -/
def execFrameError (bytes : List Byte) (s : State) : Host.Outcome State Fault Refusal :=
  match bytes, frameRefusal bytes with
  | _ :: _, some refusal => setting s (answerBadFrame bytes refusal)
  | _, _ => .next s

/-- Two-valued fields that report VALID as 0. -/
def validityByte (valid : Bool) : List Byte := firstOf valid

/-- The identity payload (R199). -/
def identityPayload (s : State) : List Byte :=
  le16 Config.vendorCode ++ le16 Config.partCode ++ le8 Config.revision ++ s.store.factory.readBytes 0x00 16
    ++ flag8 s.store.frozen ++ validityByte s.store.protectedValid ++ validityByte s.store.generalValid

/-- GET_IDENTITY (R199). -/
def execGetIdentity (tag : Byte) (s : State) : Host.Outcome State Fault Refusal :=
  request s fun s => respond 0x01 tag .ok (identityPayload s) s

/-- RESET_LINK (R186). -/
def execResetLink (tag confirmation : Byte) (s : State) : Host.Outcome State Fault Refusal :=
  setting s fun s =>
    if confirmation = 0xA5 then respond 0x02 tag .ok [] (warmReset s) else refuse 0x02 tag .badValue s

/-! ### Notice unit -/

/-- A fetched entry: not pending, count 0, payload and latch time kept (R172). -/
def EventEntry.fetched (e : EventEntry) : EventEntry := { e with pending := false, count := 0 }

/-- The state after a fetch of a kind, and the response payload (R172, R188). -/
def fetch (k : Kind) (s : State) : State := s.mapEntry k EventEntry.fetched
def fetchPayload (k : Kind) (s : State) : List Byte :=
  le8 k.number ++ le8 (s.entry k).count ++ le32 (s.entry k).latchTime ++ le8 (fetchableCount (fetch k s))
    ++ entryPayloadBytes k (s.entry k).payload

/-- FETCH_NOTICE (R172). -/
def execFetchNotice (tag : Byte) (s : State) : Host.Outcome State Fault Refusal :=
  setting s fun s =>
    match fetchChoice s with
    | none => refuse 0x03 tag .noData s
    | some k => respond 0x03 tag .ok (fetchPayload k s) (fetch k s)

/-- A window in the summary: its state and remaining time (R173). -/
def windowBytes : Option Nat → List Byte
  | none => le8 0 ++ le32 0
  | some ms => le8 1 ++ le32 ms

/-- The summary of the event table (R173). -/
def summaryPayload (s : State) : List Byte :=
  le8 s.notice.floor ++ flag8 s.pins.alert ++ windowBytes s.notice.critWindow ++ windowBytes s.notice.tripWindow
    ++ le32 (bitsNat (allKinds.map fun k => (s.entry k).pending)) ++ le32 (bitsNat (allKinds.map fun k => (s.entry k).mask))

/-- One whole entry (R173). -/
def entryPayload (k : Kind) (s : State) : List Byte :=
  le8 k.number ++ firstOf k.occurrence ++ flag8 (s.entry k).pending ++ flag8 (s.entry k).mask ++ le8 (s.entry k).level
    ++ le8 (s.entry k).count ++ le32 (s.entry k).latchTime ++ entryPayloadBytes k (s.entry k).payload

/-- READ_EVENT_TABLE (R173). -/
def execReadEventTable (tag selector : Byte) (s : State) : Host.Outcome State Fault Refusal :=
  request s fun s =>
    if selector = 0 then respond 0x04 tag .ok (summaryPayload s) s
    else match kindOf selector with
      | none => refuse 0x04 tag .badValue s
      | some k => respond 0x04 tag .ok (entryPayload k s) s

/-- The level taken for a level byte (R174). -/
def levelOf (level : Byte) : Nat := clampNat 1 7 level.toNat

/-- Level and mask of a kind written. -/
def setControl (k : Kind) (level : Nat) (mask : Bool) (s : State) : State :=
  s.mapEntry k fun e => { e with level := level, mask := mask }

/-- The answer to a control of a kind (R174). -/
def answerControl (tag : Byte) (k : Kind) (level : Byte) (mask : Bool) (s : State) : State :=
  if k.fixed then
    if level.toNat = 7 ∧ mask = false then respond 0x05 tag .ok (le8 k.number ++ le8 7 ++ flag8 false) s
    else refuse 0x05 tag .denied s
  else respond 0x05 tag (okOrClamped (levelOf level != level.toNat)) (le8 k.number ++ le8 (levelOf level) ++ flag8 mask)
    (setControl k (levelOf level) mask s)

/-- SET_EVENT_CONTROL (R174). -/
def execSetEventControl (tag kind level mask : Byte) (s : State) : Host.Outcome State Fault Refusal :=
  setting s fun s =>
    match kindOf kind, flagOf mask with
    | some k, some m => answerControl tag k level m s
    | _, _ => refuse 0x05 tag .badValue s

/-- SET_ATTENTION_FLOOR (R171). -/
def execSetAttentionFloor (tag floor : Byte) (s : State) : Host.Outcome State Fault Refusal :=
  setting s fun s =>
    respond 0x06 tag (okOrClamped (decide (6 < floor.toNat))) (le8 (min 6 floor.toNat))
      { s with notice := { s.notice with floor := min 6 floor.toNat } }

/-- ESCALATION_EXPIRY: a running window stops and the sequencer takes the expiry in RUN (R22, R176). -/
def execEscalationExpiry (window : EscalationWindow) (s : State) : Host.Outcome State Fault Refusal :=
  event s fun s =>
    if windowLeft window s = none then s
    else
      let t := setWindow window none s
      if t.pwr.state = .run then force .escalation t else t

end Sys2Proof.Machine
end

