-- ==== Sys2Proof/Machine/PowerCommands.lean ====
section
/-! DEFINITION. Meanings of the commands of the power sequencer. -/
namespace Sys2Proof.Machine

/-! ### Requests -/

/-- Bytes 1 to 3: the pending transition (R191); an absent settle remaining reads 0xFFFF (R187). -/
def transitionBytes : Option (PowerTarget × Nat) → List Byte
  | none => opt8 none ++ opt16 none
  | some (target, ms) => le8 target.index ++ le16 ms

/-- Bytes 4 and 5: the reboot restart (R191). -/
def rebootBytes : Option RebootRestart → List Byte
  | none => le16 0xFFFF
  | some .waiting => le16 0xFFFE
  | some (.offTime ms) => le16 ms

/-- Bytes 7 and 8: the fault record (R191). -/
def railFaultBytes : Option (Rail × FaultPhase) → List Byte
  | none => [0xFF, 0xFF]
  | some (r, p) => le8 (railIndex r) ++ le8 p.index

/-- A byte of the rail table (R191). -/
def railByte (e : RailEntry) : List Byte := le8 (bitsNat [e.enabled, e.good] + 16 * e.outcome.index)

/-- The rail table (R3, R191). -/
def railBytes (t : PerRail RailEntry) : List Byte := railsUp.flatMap fun r => railByte (t.get r)

/-- The 25 bytes of the power status (R29, R191). -/
def powerStatusPayload (s : State) : List Byte :=
  le8 s.pwr.state.index ++ transitionBytes s.pwr.transition ++ rebootBytes s.pwr.reboot ++ le8 s.pwr.failureCount
    ++ railFaultBytes s.pwr.faultRecord ++ le8 s.pwr.refusal.index ++ le8 s.pwr.wakeCause.index
    ++ le8 s.pwr.downCause.index ++ railBytes s.pwr.rails ++ le8 (wakeSetBits s.pwr.wakeSet)
    ++ flag8 s.pwr.wakeTimer.isSome ++ le32 (s.pwr.wakeTimer.getD 0) ++ opt8 (s.pwr.heldWake.map WakeCause.index)
    ++ le8 s.store.policy.restore.index

/-- GET_POWER_STATUS (R29). -/
def execGetPowerStatus (tag : Byte) (s : State) : Host.Outcome State Fault Refusal :=
  request s fun s => respond 0x10 tag .ok (powerStatusPayload s) s

/-- An accepted power request: the windows stop, and a settle delay of 0 starts the transition at once (R13, R176). -/
def acceptTransition (target : PowerTarget) (s : State) : State :=
  let t := stopWindows (s.mapPwr fun p => { p with transition := some (target, settleDelayOf s.store.policy) })
  if settleDelayOf s.store.policy = 0 then startTransition target t else t

/-- REQUEST_POWER_STATE (R13). -/
def execRequestPowerState (tag target : Byte) (s : State) : Host.Outcome State Fault Refusal :=
  setting s fun s =>
    match targetOf target with
    | none => refuse 0x11 tag .badValue s
    | some x =>
      if s.pwr.state ≠ .run then refuse 0x11 tag .badState s
      else if s.pwr.transition.isSome then refuse 0x11 tag .busy s
      else respond 0x11 tag .ok [] (acceptTransition x s)

/-- A wake set byte that names only the five sources a host may set (R17). -/
def wakeSourcesValid (sources : Byte) : Bool := !sources.toNat.testBit 0 && decide (sources.toNat < 64)

/-- SET_WAKE_SOURCES (R17). -/
def execSetWakeSources (tag sources : Byte) (s : State) : Host.Outcome State Fault Refusal :=
  setting s fun s =>
    if !wakeSourcesValid sources then refuse 0x12 tag .badValue s
    else if s.pwr.state ≠ .run then refuse 0x12 tag .badState s
    else respond 0x12 tag .ok (le8 (wakeSetBits (wakeSetOf sources.toNat)))
      (s.mapPwr fun p => { p with wakeSet := wakeSetOf sources.toNat })

/-- The longest wake timer, in s (R18). -/
def wakeTimerMax : Nat := 86400

/-- The wake timer armed with a count, or disarmed by 0. -/
def armWakeTimer (seconds : Nat) (s : State) : State :=
  s.mapPwr fun p => { p with wakeTimer := if seconds = 0 then none else some (min wakeTimerMax seconds), wakeTimerMs := 0 }

/-- SET_WAKE_TIMER (R18). -/
def execSetWakeTimer (tag : Byte) (seconds : BitVec 32) (s : State) : Host.Outcome State Fault Refusal :=
  setting s fun s =>
    if s.pwr.state ≠ .run then refuse 0x13 tag .badState s
    else if wakeTimerMax < seconds.toNat then
      respond 0x13 tag .clamped (le32 wakeTimerMax) (armWakeTimer seconds.toNat s)
    else respond 0x13 tag .ok [] (armWakeTimer seconds.toNat s)

/-! ### Button (R10, R11) -/

/-- The state with the button written. -/
def setButton (b : Button) (s : State) : State := s.mapPwr fun p => { p with button := b }

/-- Whether the debounced button is held with its press still to act. -/
def Button.isHeld : Button → Bool
  | .held _ => true
  | .unseen | .released | .spent => false

/-- POWER_BUTTON_PRESS (R10). -/
def execPowerButtonPress (s : State) : Host.Outcome State Fault Refusal :=
  event s fun s => if s.pwr.button = .released then setButton (.held 0) s else s

/-- POWER_BUTTON_RELEASE: the release that arms the button, or ends a press that has acted (R10). -/
def execPowerButtonRelease (s : State) : Host.Outcome State Fault Refusal :=
  event s fun s => if s.pwr.button = .unseen ∨ s.pwr.button = .spent then setButton .released s else s

/-- The short press's action by state (R9, R11). -/
def shortPressAction (s : State) : State :=
  match s.pwr.state with
  | .off => powerOnRequest .button s
  | .faultOff => if s.pwr.failureCount < 3 then powerOnRequest .button s else s
  | .run => latch .buttonPress .empty s
  | .sleepEntry | .sleep => wakeEvent .button s
  | .powerUp | .resume | .powerDown => s

/-- SHORT_PRESS (R11). -/
def execShortPress (s : State) : Host.Outcome State Fault Refusal :=
  event s fun s => if s.pwr.button.isHeld then shortPressAction (setButton .released s) else s

/-- The long press's action by state (R11). -/
def longPressAction (s : State) : State :=
  match s.pwr.state with
  | .powerUp | .run | .sleep | .resume =>
    startPowerDown .longPress (s.mapPwr fun p => { p with transition := none, reboot := none })
  | .off | .sleepEntry | .powerDown | .faultOff => s

/-- LONG_PRESS (R10, R11). -/
def execLongPress (s : State) : Host.Outcome State Fault Refusal :=
  event s fun s => if s.pwr.button.isHeld then longPressAction (setButton .spent s) else s

/-! ### Rails (R3, R4, R6, R7) -/

/-- The rails that come up after one. -/
def railRises (r : Rail) (s : State) : State :=
  let t := s.mapRail r fun e => { e with good := true }
  match s.pwr.upWait with
  | none => t
  | some (x, _) =>
    if x = r then
      enableFrom (railsAfter r railsUp)
        ((t.mapRail r fun e => { e with outcome := .upOk }).mapPwr fun p => { p with upWait := none })
    else t

/-- POWER_GOOD_RISE (R4). -/
def execPowerGoodRise (rail : Rail) (s : State) : Host.Outcome State Fault Refusal := event s (railRises rail)

/-- The rail in its down wait. -/
def waitsDown (s : State) (r : Rail) : Bool :=
  match s.pwr.downWait with
  | none => false
  | some (x, _) => decide (x = r)

/-- A power-good falls: the end of its down wait; on an enabled rail that was up the outcome LOST, with a rail fault in the
states that R8 names; else its level alone (R3, R7, R8). -/
def railFalls (r : Rail) (s : State) : State :=
  let was := s.pwr.rails.get r
  let t := s.mapRail r fun e => { e with good := false }
  if !was.good then t
  else if waitsDown s r then endDownWait r .downOk t
  else if was.enabled then
    match lossPhase s.pwr.state r with
    | some phase => railFault r phase .lost t
    | none => t.mapRail r fun e => { e with outcome := .lost }
  else t

/-- POWER_GOOD_FALL (R7). -/
def execPowerGoodFall (rail : Rail) (s : State) : Host.Outcome State Fault Refusal := event s (railFalls rail)

/-- UP_TIMEOUT_EXPIRY (R4, R6). -/
def execUpTimeoutExpiry (s : State) : Host.Outcome State Fault Refusal :=
  event s fun s =>
    match s.pwr.upWait with
    | none => s
    | some (r, _) => railFault r .up .upTimeout s

/-- DOWN_WAIT_EXPIRY (R7). -/
def execDownWaitExpiry (s : State) : Host.Outcome State Fault Refusal :=
  event s fun s =>
    match s.pwr.downWait with
    | none => s
    | some (r, _) => endDownWait r .downSlow (latch .railEvent (.railEvent r none) s)

/-! ### Timers -/

/-- SETTLE_EXPIRY (R14). -/
def execSettleExpiry (s : State) : Host.Outcome State Fault Refusal :=
  event s fun s =>
    match s.pwr.transition with
    | none => s
    | some (target, _) => startTransition target s

/-- REBOOT_OFF_TIME_EXPIRY (R15). -/
def execRebootOffTimeExpiry (s : State) : Host.Outcome State Fault Refusal :=
  event s fun s =>
    match s.pwr.reboot with
    | some (.offTime _) => powerOnRequest .reboot (s.mapPwr fun p => { p with reboot := none })
    | _ => s

/-- What the wake timer's expiry does in a state in which it counts (R18). -/
def timerAction (s : State) : State := if s.pwr.state = .off then powerOnRequest .timer s else wakeEvent .timer s

/-- WAKE_TIMER_EXPIRY: an armed timer, or one that has reached 0 in this state, acts and is disarmed (R18). -/
def execWakeTimerExpiry (s : State) : Host.Outcome State Fault Refusal :=
  event s fun s =>
    if (s.pwr.wakeTimer.isSome ∨ s.pwr.wakeExpired) ∧ (s.pwr.state = .sleep ∨ s.pwr.state = .off) then
      timerAction (s.mapPwr fun p => { p with wakeTimer := none, wakeTimerMs := 0, wakeExpired := false })
    else s

/-- The restore policy asks for a power-on request (R25). -/
def restoreWanted (s : State) : Bool :=
  match s.store.policy.restore with
  | .stayOff => false
  | .alwaysOn => true
  | .lastState => s.store.marker

/-- RESTORE_DECISION (R25). -/
def execRestoreDecision (s : State) : Host.Outcome State Fault Refusal :=
  event s fun s =>
    if s.pwr.restoreTaken then s
    else
      let t := s.mapPwr fun p => { p with restoreTaken := true }
      if t.pwr.state = .off ∧ restoreWanted t then powerOnRequest .restore t else t

/-- REFUSAL_DISPLAY_END (R27). -/
def execRefusalDisplayEnd (s : State) : Host.Outcome State Fault Refusal :=
  event s fun s => s.mapPwr fun p => { p with refusalDisplay := none }

end Sys2Proof.Machine
end

