-- ==== Sys2Proof/Machine/PostureCommands.lean ====
section
/-! DEFINITION. Meanings of the commands of the posture monitor. -/
namespace Sys2Proof.Machine

/-- The fields of GET_POSTURE in their order (R45). -/
def posturePayload (p : PostureMonitor) : List Byte :=
  le8 p.posture.index ++ le8 p.mode.index ++ le8 p.lid.index ++ le8 p.fold.index ++ le16 p.angle ++ le8 p.angleState.index
    ++ opt8 (p.candidate.map Posture.index) ++ le16 p.dwell ++ flag8 p.conflict.isSome ++ le16 p.returnElapsed

/-- GET_POSTURE (R45). -/
def execGetPosture (tag : Byte) (s : State) : Host.Outcome State Fault Refusal :=
  request s fun s => respond 0x20 tag .ok (posturePayload s.post) s

/-- A debounced hall level written (R31). -/
def PostureMonitor.withHall (p : PostureMonitor) (sensor : HallSensor) (level : HallLevel) : PostureMonitor :=
  match sensor with
  | .lid => { p with lid := level }
  | .fold => { p with fold := level }

/-- HALL_DEBOUNCED_CHANGE (R31). -/
def execHallDebouncedChange (sensor : HallSensor) (active : Bool) (s : State) : Host.Outcome State Fault Refusal :=
  event s fun s => evaluate (s.mapPost fun p => p.withHall sensor (if active then .active else .inactive))

/-- ANGLE_SAMPLE (R32, R33). -/
def execAngleSample (raw : BitVec 12) (s : State) : Host.Outcome State Fault Refusal :=
  event s fun s => if sampleValid s raw.toNat then takeAngle (angleOf s raw.toNat) s else takeRailFault s

/-- DWELL_EXPIRY (R37). -/
def execDwellExpiry (s : State) : Host.Outcome State Fault Refusal :=
  event s fun s =>
    match s.post.candidate with
    | none => s
    | some c => commit c s

/-- CONFLICT_TIMER_EXPIRY (R40). -/
def execConflictTimerExpiry (s : State) : Host.Outcome State Fault Refusal :=
  event s fun s => if s.post.conflict.isSome then enterHallOnly s else s

/-- RETURN_TIMER_EXPIRY (R42). -/
def execReturnTimerExpiry (s : State) : Host.Outcome State Fault Refusal :=
  event s fun s => if s.post.mode = .hallOnly ∧ s.post.returning then returnToAngle s else s

end Sys2Proof.Machine
end

