-- ==== Sys2Proof/Machine/KeyboardCommands.lean ====
section
/-! DEFINITION. Meanings of the commands of the keyboard scanner. -/
namespace Sys2Proof.Machine

/-- The count of records that a count byte stands for (R62). -/
def wantedKeys (count : Byte) : Nat := clampNat 1 8 count.toNat

/-- A key record's four bytes (R189). -/
def keyBytes (r : KeyRecord) : List Byte :=
  [r.code] ++ le8 (r.action.index + (match r.layer with | .base => 0 | .fn => 0x80)) ++ le16 r.timestamp

/-- A resync started by a read that left the queue empty with the overflowed flag set (R64). -/
def needsResync (s : State) : Bool := s.kbd.queue.isEmpty && s.kbd.overflowed

/-- Records taken from the head of the queue; an emptied queue ends KEY_AVAILABLE, and a resync refills it (R62, R63,
R64). -/
def drainKeys (n : Nat) (s : State) : State :=
  let t := s.mapKbd fun k => { k with queue := k.queue.drop n }
  let t := if t.kbd.queue.isEmpty then endCondition .keyAvailable t else t
  if needsResync t then pushResync (t.mapKbd fun k => { k with overflowed := false }) else t

/-- The READ_KEYS payload (R189). -/
def keysPayload (n : Nat) (s : State) : List Byte :=
  le8 (s.kbd.queue.take n).length ++ le8 (drainKeys n s).kbd.queue.length
    ++ flag8 ((s.kbd.queue.drop n).isEmpty && s.kbd.overflowed) ++ (s.kbd.queue.take n).flatMap keyBytes

/-- READ_KEYS (R62). -/
def execReadKeys (tag count : Byte) (s : State) : Host.Outcome State Fault Refusal :=
  setting s fun s =>
    if s.kbd.queue.isEmpty then refuse 0x30 tag .noData s
    else respond 0x30 tag (okOrClamped (wantedKeys count != count.toNat)) (keysPayload (wantedKeys count) s)
      (drainKeys (wantedKeys count) s)

/-- The keyboard settings as bytes, in the order of the request (R187). -/
def keyboardBytes (k : Keyboard) : List Byte :=
  firstOf k.enabled ++ firstOf (decide (k.route = .scanner)) ++ firstOf k.caps ++ firstOf k.num ++ firstOf k.mute
    ++ le8 k.level

/-- The settings of a SET_KEYBOARD_CONTROL, none when a value lies outside its set (R67). -/
def controlOf (keyboard route caps num mute level : Byte) (k : Keyboard) : Option Keyboard :=
  match firstOf? keyboard, firstOf? route, firstOf? caps, firstOf? num, firstOf? mute with
  | some e, some r, some c, some n, some m =>
    some { k with enabled := e, route := if r then .scanner else .host, caps := c, num := n, mute := m,
                  level := min 3 level.toNat }
  | _, _, _, _, _ => none

/-- SET_KEYBOARD_CONTROL (R67, R71). -/
def execSetKeyboardControl (tag keyboard route caps num mute level : Byte) (s : State) :
    Host.Outcome State Fault Refusal :=
  setting s fun s =>
    match controlOf keyboard route caps num mute level s.kbd with
    | none => refuse 0x31 tag .badValue s
    | some k =>
      respond 0x31 tag (okOrClamped (decide (3 < level.toNat))) (keyboardBytes k)
        (testSuppression (restartIdle (undim (s.mapKbd fun _ => k))))

/-- A keymap entry's attribute byte; bits that name nothing read 0 (log entry 21). -/
def attributeNat (e : KeyEntry) : Nat := bitsNat [e.modifier, e.fnKey, e.wake] + 16 * e.hotkey.index

/-- An override written (R54). -/
def setOverride (position : Nat) (e : KeyEntry) (s : State) : State :=
  s.mapKbd fun k => { k with overrides := sparseSet (fun _ => none) k.overrides position (some e) }

/-- SET_KEYMAP_ENTRY (R54, R192). -/
def execSetKeymapEntry (tag position baseCode fnCode attributes : Byte) (s : State) : Host.Outcome State Fault Refusal :=
  setting s fun s =>
    match hotkeyOf (hotkeyBits attributes) with
    | none => refuse 0x32 tag .badValue s
    | some a =>
      if 127 < position.toNat then refuse 0x32 tag .badValue s
      else
        let e := keyEntryOf baseCode fnCode attributes a
        respond 0x32 tag .ok ([position, e.base, e.fn] ++ le8 (attributeNat e)) (setOverride position.toNat e s)

/-- MATRIX_SCAN: in ACTIVE mode alone (R47). -/
def execMatrixScan (raw : BitVec 128) (s : State) : Host.Outcome State Fault Refusal :=
  event s fun s => if s.kbd.mode = .active then scanMatrix raw.getLsbD s else s

/-- QUIET_TIME_EXPIRY (R49). -/
def execQuietTimeExpiry (s : State) : Host.Outcome State Fault Refusal :=
  event s fun s =>
    if s.kbd.mode = .active ∧ s.kbd.positions.isEmpty then s.mapKbd fun k => { k with mode := .idleDetect } else s

/-- SENSE_CHANGE: the scanner returns to ACTIVE and scans at once (R49). -/
def execSenseChange (raw : BitVec 128) (s : State) : Host.Outcome State Fault Refusal :=
  event s fun s =>
    if s.kbd.mode = .idleDetect then scanMatrix raw.getLsbD (s.mapKbd fun k => { k with mode := .active, quiet := 0 })
    else s

/-- BACKLIGHT_IDLE_EXPIRY (R71). -/
def execBacklightIdleExpiry (s : State) : Host.Outcome State Fault Refusal :=
  event s fun s => if s.kbd.idle.isSome then s.mapKbd fun k => { k with dimmed := true, idle := none } else s

end Sys2Proof.Machine
end

