-- ==== Sys2Proof/Machine/PackCommands.lean ====
section
/-! DEFINITION. Meanings of the commands of the pack bus controller. -/
namespace Sys2Proof.Machine

/-! ### Requests (R94, R95, R96, R190) -/

/-- A slot still to be identified shows no value (R94). -/
def unidentified (p : PackSlot) : Bool :=
  decide (p.state = .identifying) || (decide (p.state = .commLost) && decide (p.previous = some .identifying))

/-- The nine poll entries as the record reports them (R94). -/
def shownItems (p : PackSlot) : PerItem PollEntry := if unidentified p then PackSlot.cleared.items else p.items

/-- Bytes 6 to 24: the identity, every byte 0xFF while absent (R190). -/
def identityBytes : Option Identity → List Byte
  | none => List.replicate 19 0xFF
  | some d =>
    le16 d.designCapacity ++ le16 d.designVoltage ++ le8 (min 255 d.cellCount) ++ le16 d.chargeVoltageLimit
      ++ le16 d.maxDischargeCurrent ++ d.serial ++ le16 d.cycleCount

/-- The pack record (R190). -/
def packRecord (p : PackSlot) : List Byte :=
  let items := allDynItems.map fun i => (shownItems p).get i
  le8 (p.state.index + 16 * (match p.previous with | none => 15 | some q => q.index))
    ++ le8 (p.rejection.index + 16 * p.failures) ++ le16 p.status.toNat ++ le16 p.alarm.toNat ++ identityBytes p.identity
    ++ le16 (bitsNat (items.map fun e => e.value.isSome)) ++ le16 (bitsNat (items.map fun e => e.valid))
    ++ (items.flatMap fun e => opt16 (e.value.map BitVec.toNat)) ++ (items.flatMap fun e => le8 (min 255 (e.age / 256)))

/-- The fresh flag applies: the slot is ACTIVE, or COMM_LOST from ACTIVE (R95). -/
def freshApplies (p : PackSlot) : Bool :=
  decide (p.state = .active) || (decide (p.state = .commLost) && decide (p.previous = some .active))

/-- The answer for a slot (R94, R95). -/
def answerRecord (tag : Byte) (k : Slot) (fresh : Bool) (s : State) : State :=
  if (s.pack k).state = .empty then refuse 0x40 tag .noData s
  else if fresh && freshApplies (s.pack k) then enterProcessing 0x40 tag (.freshRead tag k false) (placeFreshRead k s)
  else respond 0x40 tag .ok (packRecord (s.pack k)) s

/-- GET_PACK_RECORD (R94). -/
def execGetPackRecord (tag slot fresh : Byte) (s : State) : Host.Outcome State Fault Refusal :=
  request s fun s =>
    match slotOf slot, flagOf fresh with
    | some k, some f => answerRecord tag k f s
    | _, _ => refuse 0x40 tag .badValue s

/-- FRESH_READ_ANSWER: the third read has ended (R95). -/
def execFreshReadAnswer (s : State) : Host.Outcome State Fault Refusal :=
  event s fun s =>
    match s.link.processing with
    | some (.freshRead tag k true) => finishProcessing 0x40 tag .ok (packRecord (s.pack k)) s
    | _ => s

/-- The fault record, every byte 0xFF while absent (R190). -/
def packFaultBytes : Option PackFault → List Byte
  | none => List.replicate 9 0xFF
  | some f =>
    le8 (slotIndex f.slot) ++ le8 (faultItemIndex f.item) ++ le8 (phaseIndex f.phase) ++ le8 f.outcome.index
      ++ le8 f.attempts ++ le32 f.time

/-- The GET_PACK_FAULT payload (R190). -/
def packFaultPayload (p : PackSlot) : List Byte :=
  le8 p.state.index ++ packFaultBytes p.fault ++ le8 p.faultCount ++ le8 p.failures

/-- GET_PACK_FAULT (R96). -/
def execGetPackFault (tag slot : Byte) (s : State) : Host.Outcome State Fault Refusal :=
  request s fun s =>
    match slotOf slot with
    | none => refuse 0x41 tag .badValue s
    | some k =>
      if (s.pack k).state = .empty then refuse 0x41 tag .noData s
      else respond 0x41 tag .ok (packFaultPayload (s.pack k)) s

/-! ### Events -/

/-- PACK_INSERTION (R85, R86). -/
def execPackInsertion (slot : Slot) (s : State) : Host.Outcome State Fault Refusal :=
  event s fun s => if (s.pack slot).state = .empty then insertPack slot s else s

/-- PACK_PRESENCE_FALL (R85). -/
def execPackPresenceFall (slot : Slot) (s : State) : Host.Outcome State Fault Refusal :=
  event s fun s => if (s.pack slot).state = .empty then s else emptySlot slot s

/-- POLL_ITEM_DUE (R90). -/
def execPollItemDue (slot : Slot) (item : DynItem) (s : State) : Host.Outcome State Fault Refusal :=
  event s (itemDue slot item)

/-- IDENTIFY_RETRY_EXPIRY (R88). -/
def execIdentifyRetryExpiry (slot : Slot) (s : State) : Host.Outcome State Fault Refusal := event s (retryIdentity slot)

/-- PACK_ATTEMPT_START: a line held low makes the attempt a TIMEOUT at ADDRESS (R74, R92). -/
def execPackAttemptStart (stuck : Bool) (s : State) : Host.Outcome State Fault Refusal :=
  event s fun s =>
    match takeRead s with
    | none => s
    | some _ => if stuck then endAttempt (.timeout .address) (startAttempt s) else startAttempt s

/-- PACK_ATTEMPT_END (R77, R78). -/
def execPackAttemptEnd (result : AttemptResult) (s : State) : Host.Outcome State Fault Refusal := event s (endAttempt result)

/-- ALARM_MESSAGE (R82). -/
def execAlarmMessage (bytes : List Byte) (s : State) : Host.Outcome State Fault Refusal := event s (judgeAlarm bytes)

/-- ALARM_CLOCK_TIMEOUT: a bad check for the source that had arrived (R82). -/
def execAlarmClockTimeout (bytes : List Byte) (s : State) : Host.Outcome State Fault Refusal :=
  event s fun s =>
    match alarmSource s bytes with
    | none => s
    | some k => badAlarm k s

/-- ITEM_STALE (R91). -/
def execItemStale (slot : Slot) (item : DynItem) (s : State) : Host.Outcome State Fault Refusal := event s (itemStale slot item)

end Sys2Proof.Machine
end

