-- ==== Sys2Proof/Machine/ChargeCommands.lean ====
section
/-! DEFINITION. Meanings of the commands of the charge controller. -/
namespace Sys2Proof.Machine

/-! ### GET_POWER_PATH (R124) -/

/-- Bytes 8 and 9 of a slot's charge status: phase, fault cause, done RSOC, band. -/
def chargeBytes (c : ChargeStatus) : List Byte :=
  le8 c.phase.index ++ le8 c.fault.index ++ opt8 c.doneRsoc ++ le8 c.band.index

/-- The target of a switch-over. -/
def switchTarget (s : State) : Option Slot := if s.chg.switchOver.isSome then s.chg.selected else none

/-- The fields of GET_POWER_PATH in their order. -/
def powerPathPayload (s : State) : List Byte :=
  let a := s.chg.adapter
  flag8 a.present ++ le8 a.cls.index ++ le16 (classWatts a) ++ le16 a.vin ++ le16 a.iin ++ flag8 a.bypass
    ++ le8 (supplyIndex s.chg.supply) ++ le8 (dischargeIndex s.chg.discharge)
    ++ le8 (selectedIndex s.chg.selected) ++ le8 (slotIndex s.chg.switchAt) ++ opt8 ((switchTarget s).map slotIndex)
    ++ le8 (holdBits s.chg.hold) ++ le32 (s.chg.sessionMs / 1000) ++ le16 (s.chg.prechargeMs / 1000)
    ++ chargeBytes s.chg.packs.int ++ chargeBytes s.chg.packs.rear
    ++ le16 s.chg.iSet ++ le16 s.chg.vSet ++ le16 (requestOf s) ++ le8 s.chg.stop ++ le8 s.chg.start
    ++ le8 s.chg.energy.index ++ opt8 (combinedCharge s) ++ flag8 s.chg.cal.running

/-- GET_POWER_PATH (R124). -/
def execGetPowerPath (tag : Byte) (s : State) : Host.Outcome State Fault Refusal :=
  request s fun s => respond 0x48 tag .ok (powerPathPayload s) s

/-- SET_CHARGE_LIMITS (R113). -/
def execSetChargeLimits (tag stop start : Byte) (s : State) : Host.Outcome State Fault Refusal :=
  setting s fun s =>
    let applied := clampLimits stop.toNat start.toNat
    respond 0x49 tag (okOrClamped (applied != (stop.toNat, start.toNat))) (le8 applied.1 ++ le8 applied.2)
      (applyLimits stop.toNat start.toNat s)

/-! ### Calibration requests (R116, R119, R120) -/

/-- The record of a cycle that starts (R116). -/
def startedCal (k : Slot) (s : State) : CalRecord :=
  { CalRecord.blank with phase := .discharge, slot := some k,
                         suspension := { Suspension.clear with platform := decide (s.pwr.state ≠ .run) },
                         capacityBefore := lastValue s k .fullCapacity }

/-- START's tests for a slot, in R116's order, and the start. -/
def answerStart (tag : Byte) (k : Slot) (s : State) : State :=
  if s.chg.cal.running then refuse 0x4A tag .busy s
  else if s.chg.adapter.present = false ∨ isActive s k = false ∨ (s.chg.packs.get k).phase = .fault then
    refuse 0x4A tag .badState s
  else respond 0x4A tag .ok [] (settleCharge (putCal (startedCal k s) s))

/-- CALIBRATION_START: an operation outside the five and a slot outside the two are BADVALUE (R116). -/
def execCalibrationStart (tag operation slot : Byte) (s : State) : Host.Outcome State Fault Refusal :=
  setting s fun s =>
    match slotOf slot with
    | none => refuse 0x4A tag .badValue s
    | some k => if operation = 0 then answerStart tag k s else refuse 0x4A tag .badValue s

/-- CALIBRATION_SUSPEND; the slot byte is ignored (R119, R185). -/
def execCalibrationSuspend (tag _slot : Byte) (s : State) : Host.Outcome State Fault Refusal :=
  setting s fun s =>
    if s.chg.cal.phase = .discharge ∨ s.chg.cal.phase = .rest then
      respond 0x4A tag .ok [] (settleCharge (suspend (fun x => { x with host := true }) s))
    else refuse 0x4A tag .badState s

/-- CALIBRATION_RESUME; the slot byte is ignored (R119, R185). -/
def execCalibrationResume (tag _slot : Byte) (s : State) : Host.Outcome State Fault Refusal :=
  setting s fun s =>
    if s.chg.cal.suspension.host then
      respond 0x4A tag .ok [] (settleCharge (suspend (fun x => { x with host := false }) s))
    else refuse 0x4A tag .badState s

/-- CALIBRATION_ABORT; the slot byte is ignored (R120, R185). -/
def execCalibrationAbort (tag _slot : Byte) (s : State) : Host.Outcome State Fault Refusal :=
  setting s fun s =>
    if s.chg.cal.running then respond 0x4A tag .ok [] (settleCharge (endCal .aborted (some .host) s))
    else refuse 0x4A tag .badState s

/-- CALIBRATION_STATUS_READ; the slot byte is ignored (R116, R185, R188). -/
def execCalibrationStatusRead (tag _slot : Byte) (s : State) : Host.Outcome State Fault Refusal :=
  request s fun s => respond 0x4A tag .ok (calBytes s.chg.cal) s

/-! ### Adapter (R98, R99, R100) -/

/-- What the sequencer does at an attach (R9, R12, R19). -/
def sequenceAttach (s : State) : State :=
  match s.pwr.state with
  | .faultOff => s.mapPwr fun p => { p with failureCount := 0 }
  | .off => if s.store.policy.powerOnAtAdapter then powerOnRequest .adapterAttach s else s
  | _ => wakeEvent .adapterChange s

/-- ADAPTER_LOST leaves the suspension of DISCHARGE at an attach, and enters it at a removal (R119). -/
def suspendByAdapter (lost : Bool) (s : State) : State :=
  if s.chg.cal.phase = .discharge then suspend (fun x => { x with adapterLost := lost }) s else s

/-- An attach (R99, R121, R122). -/
def attachAdapter (s : State) : State :=
  let t := s.mapChg fun c =>
    { c with adapter := { c.adapter with present := true, cls := .pending }, classWait := some Config.classReadMs,
             calCarries := false, lowArmed := true }
  sequenceAttach (packEvent (suspendByAdapter false t))

/-- ADAPTER_ATTACH (R99). -/
def execAdapterAttach (s : State) : Host.Outcome State Fault Refusal :=
  event s fun s => if s.chg.adapter.present then s else attachAdapter s

/-- A class band's low and high code (R192); `i` counts 45, 65, 90, 135 W. -/
def classBand (s : State) (i : Nat) : Nat × Nat :=
  (fromLe (s.store.factory.readBytes (0x36 + 4 * i) 2), fromLe (s.store.factory.readBytes (0x38 + 4 * i) 2))

/-- A band holds a code; its two ends are in it (log entry 22). -/
def inBand (s : State) (i code : Nat) : Bool := decide ((classBand s i).1 ≤ code ∧ code ≤ (classBand s i).2)

/-- The class of an ID code: the first band that holds it (R99). -/
def classOf (s : State) (code : Nat) : AdapterClass :=
  if inBand s 0 code then .w45 else if inBand s 1 code then .w65 else if inBand s 2 code then .w90
  else if inBand s 3 code then .w135 else .unknown45

/-- The class is written and reported (R99). -/
def readClass (code : Nat) (s : State) : State :=
  let t := s.mapChg fun c => { c with adapter := { c.adapter with cls := classOf s code }, classWait := none }
  latch .adapterChanged (.adapterChanged true (classOf s code)) t

/-- ADAPTER_CLASS_READ: a read that no attach waits for does nothing (R99). -/
def execAdapterClassRead (code : BitVec 12) (s : State) : Host.Outcome State Fault Refusal :=
  event s fun s => if s.chg.classWait.isSome then readClass code.toNat s else s

/-- A pack in FAULT returns to IDLE (R100, R109). -/
def leaveFault (k : Slot) (s : State) : State :=
  if (s.chg.packs.get k).phase = .fault then
    changePack k (fun s => s.mapChg fun c =>
      { c with packs := c.packs.set k { ((c.packs.get k).withPhase .idle) with fault := .none } }) s
  else s

/-- A removal; with the bypass ON it leaves the platform on the calibrating pack (R100, R119). Packs in FAULT return to IDLE in
the order INT, REAR, and before the selected pack's session is held, so that the last CHARGE_STATE latch, whose payload stands
in the STATE entry, is the held session's, or REAR's where both were in FAULT (DESIGN CHOICE: R100 does not order the two packs
and R166 lets two latches that arrive together be applied in either order; log entry 59). -/
def removeAdapter (s : State) : State :=
  let t := s.mapChg fun c =>
    { c with adapter := { c.adapter with present := false, cls := .none, vin := 0, iin := 0 }, classWait := none,
             calCarries := c.adapter.bypass }
  let t := latch .adapterChanged (.adapterChanged false .none) t
  let t := suspendByAdapter true (leaveFault .rear (leaveFault .int t))
  wakeEvent .adapterChange (packEvent t)

/-- ADAPTER_REMOVAL (R100). -/
def execAdapterRemoval (s : State) : Host.Outcome State Fault Refusal :=
  event s fun s => if s.chg.adapter.present then removeAdapter s else s

/-- ADAPTER_SAMPLE: while PRESENT (R98). -/
def execAdapterSample (vin : BitVec 16) (iin : BitVec 15) (s : State) : Host.Outcome State Fault Refusal :=
  event s fun s =>
    if s.chg.adapter.present then
      s.mapChg fun c => { c with adapter := { c.adapter with vin := vin.toNat, iin := iin.toNat } }
    else s

/-! ### Session timers (R105, R109, R111, R117, R118, R121) -/

/-- SWITCH_OVER_EXPIRY: the switch moves and the session starts (R105). -/
def execSwitchOverExpiry (s : State) : Host.Outcome State Fault Refusal :=
  event s fun s =>
    match s.chg.selected, s.chg.switchOver with
    | some k, some _ => settleCharge (startSession k (s.mapChg fun c => { c with switchAt := k }))
    | _, _ => s

/-- The session timer counts in these phases (R109). -/
def timedPhase : ChargePhase → Bool
  | .precharge | .constantCurrent | .constantVoltage => true
  | _ => false

/-- SESSION_TIMER_EXPIRY (R109). -/
def execSessionTimerExpiry (s : State) : Host.Outcome State Fault Refusal :=
  event s fun s =>
    match s.chg.selected with
    | none => s
    | some k => if timedPhase (s.chg.packs.get k).phase then settleCharge (enterFault k .timer s) else s

/-- PRECHARGE_TIMEOUT (R109). -/
def execPrechargeTimeout (s : State) : Host.Outcome State Fault Refusal :=
  event s fun s =>
    match s.chg.selected with
    | none => s
    | some k =>
      if (s.chg.packs.get k).phase = .precharge then settleCharge (enterFault k .prechargeTimeout s) else s

/-- BUDGET_RETRY_EXPIRY (R111). -/
def execBudgetRetryExpiry (s : State) : Host.Outcome State Fault Refusal :=
  event s fun s =>
    if s.chg.budgetRetry.isSome then
      settleCharge (s.mapChg fun c => { c with budgetRetry := none, hold := { c.hold with budget := false } })
    else s

/-- DISCHARGE runs unsuspended. -/
def discharging (c : CalRecord) : Bool := decide (c.phase = .discharge) && decide (c.suspension = .clear)

/-- DISCHARGE_TIMEOUT (R117, R120). -/
def execDischargeTimeout (s : State) : Host.Outcome State Fault Refusal :=
  event s fun s =>
    if discharging s.chg.cal then settleCharge (endCal .failed (some .dischargeTimeout) s) else s

/-- REST_EXPIRY (R118). -/
def execRestExpiry (s : State) : Host.Outcome State Fault Refusal :=
  event s fun s =>
    if s.chg.cal.phase = .rest ∧ s.chg.cal.suspension = .clear then
      settleCharge (putCal { s.chg.cal with phase := .charge, restMs := 0 } s)
    else s

/-- ENERGY_FIRST_JUDGEMENT (R121). -/
def execEnergyFirstJudgement (s : State) : Host.Outcome State Fault Refusal :=
  event s fun s => if s.chg.judging then s else judgeEnergy (s.mapChg fun c => { c with judging := true })

end Sys2Proof.Machine
end

