-- ==== Sys2Proof/Machine/BudgetCommands.lean ====
section
/-! DEFINITION. Meanings of the commands of the budget unit. -/
namespace Sys2Proof.Machine

/-- The 37 bytes of the budget record (R191). -/
def budgetPayload (b : Budget) : List Byte :=
  le32 b.a ++ le16 b.d ++ le16 b.h ++ le16 b.b ++ le16 b.heatShare ++ le16 b.q ++ le16 b.pChg ++ le16 b.iChg ++ le16 b.pEff
    ++ le32 b.pProc ++ le32 b.r ++ le8 b.mode.index ++ firstOf b.boost ++ flag8 b.short ++ le8 b.overload ++ le32 b.backoff
    ++ le8 b.limiting.index

/-- GET_BUDGET (R142). -/
def execGetBudget (tag : Byte) (s : State) : Host.Outcome State Fault Refusal :=
  request s fun s => respond 0x50 tag .ok (budgetPayload s.bud) s

/-- The mode whose index stands first when the flag is set (R140). -/
def budgetMode (first : Bool) : BudgetMode := if first then .chargeFirst else .performanceFirst

/-- SET_BUDGET_MODE (R141). -/
def execSetBudgetMode (tag mode boost : Byte) (s : State) : Host.Outcome State Fault Refusal :=
  setting s fun s =>
    match firstOf? mode, firstOf? boost with
    | some m, some b =>
      respond 0x51 tag .ok (le8 (budgetMode m).index ++ firstOf b)
        (s.mapBud fun r => { r with mode := budgetMode m, boost := b })
    | _, _ => refuse 0x51 tag .badValue s

/-- BUDGET_EVALUATION (R125). -/
def execBudgetEvaluation (s : State) : Host.Outcome State Fault Refusal := event s evaluateBudget

end Sys2Proof.Machine
end

