-- ==== Sys2Proof/Machine/ThermalCommands.lean ====
section
/-! DEFINITION. Meanings of the commands of the thermal controller. -/
namespace Sys2Proof.Machine

/-- A sensor's part of GET_THERMAL (R164). -/
def sensorPayload (s : State) (k : Sensor) : List Byte :=
  let r := s.sensor k
  le8 r.state.index ++ le16 r.code ++ optTemp r.temp ++ flag8 r.warn ++ flag8 r.trip ++ flag8 r.hard
    ++ leInt16 (limitOf s.store.policy s.post.posture k) ++ leInt16 (warnOf s.store.policy s.post.posture k) ++ le16 r.hs

/-- A fan's part of GET_THERMAL (R164). -/
def fanPayload (s : State) (fan : Fan) : List Byte :=
  let f := s.thr.fans.get fan
  opt8 f.curve ++ le8 f.target ++ le8 f.commanded ++ le8 f.manual ++ le8 (safeFloorOf s.store.policy fan) ++ le16 f.rpm
    ++ flag8 f.stalled ++ le8 f.stallCount ++ le8 f.recoveryCount

/-- The fields of GET_THERMAL in R164's order, 82 bytes: the answer that the thermal controller gives the link. The response
frame has room for the first 56 of them (R182; DESIGN CHOICE, log entry 9). -/
def thermalPayload (s : State) : List Byte :=
  allSensors.flatMap (sensorPayload s) ++ le16 s.thr.h ++ le16 s.thr.hMaxEff ++ le8 s.thr.limiting.index
    ++ le8 s.thr.mode.index ++ fanPayload s .a ++ fanPayload s .b

/-- GET_THERMAL (R164). -/
def execGetThermal (tag : Byte) (s : State) : Host.Outcome State Fault Refusal :=
  request s fun s => respond 0x58 tag .ok (thermalPayload s) s

/-- The duty that applies for a MANUAL duty: no lower than the safe floor while the floor condition holds (R157). -/
def appliedDuty (s : State) (fan : Fan) (duty : Nat) : Nat :=
  if floorCondition s fan then max duty (safeFloorOf s.store.policy fan) else duty

/-- The manual duties written. -/
def putManual (a b : Nat) (s : State) : State :=
  s.mapFans fun fan f => { f with manual := match fan with | .a => a | .b => b }

/-- SET_FAN_MODE to MANUAL: the response echoes the duties that apply (R157). -/
def answerManual (tag dutyA dutyB : Byte) (s : State) : State :=
  let a := appliedDuty s .a (manualDuty dutyA.toNat)
  let b := appliedDuty s .b (manualDuty dutyB.toNat)
  respond 0x59 tag (okOrClamped (a != dutyA.toNat || b != dutyB.toNat)) (le8 FanMode.manual.index ++ le8 a ++ le8 b)
    (setFanMode .manual (putManual (manualDuty dutyA.toNat) (manualDuty dutyB.toNat) s))

/-- SET_FAN_MODE (R157). -/
def execSetFanMode (tag mode dutyA dutyB : Byte) (s : State) : Host.Outcome State Fault Refusal :=
  setting s fun s =>
    match fanModeOf mode with
    | none => refuse 0x59 tag .badValue s
    | some .manual => answerManual tag dutyA dutyB s
    | some m =>
      respond 0x59 tag .ok (le8 m.index ++ le8 s.thr.fans.a.manual ++ le8 s.thr.fans.b.manual) (setFanMode m s)

/-- CONVERSION_ROUND (R144). -/
def execConversionRound (soc charger deck base : BitVec 12) (s : State) : Host.Outcome State Fault Refusal :=
  event s (conversionRound soc.toNat charger.toNat deck.toNat base.toNat)

/-- START_UP_HOLD_END (R159). -/
def execStartUpHoldEnd (s : State) : Host.Outcome State Fault Refusal :=
  event s fun s => s.mapThr fun t => { t with holdOver := true }

/-- TACH_WINDOW_END (R160). -/
def execTachWindowEnd (pulsesA pulsesB : Fin 2185) (s : State) : Host.Outcome State Fault Refusal :=
  event s (tachWindow pulsesA.val pulsesB.val)

end Sys2Proof.Machine
end

