-- ==== Sys2Proof/Machine/StoreCommands.lean ====
section
/-! DEFINITION. Meanings of the commands of the configuration store. -/
namespace Sys2Proof.Machine

/-- A region's size (R195), none outside the four. -/
def regionSize (region : Nat) : Option Nat :=
  match region with
  | 0 => some 256
  | 1 => some 128
  | 2 => some 896
  | 3 => some 1
  | _ => none

/-- Stored bytes of a region (R192, R195). -/
def regionBytes (s : State) (region offset n : Nat) : List Byte :=
  match region with
  | 0 => s.store.factory.readBytes offset n
  | 1 => s.store.image.readBytes offset n
  | 2 => s.store.image.readBytes (0x080 + offset) n
  | _ => [if s.store.marker then 0x01 else 0x00]

/-- How many bytes a read returns (R195). -/
def readLength (size offset length : Nat) : Nat := min (min length 56) (size - offset)

/-- READ_CONFIG (R195). -/
def execReadConfig (tag region : Byte) (offset : BitVec 16) (length : Byte) (s : State) : Host.Outcome State Fault Refusal :=
  request s fun s =>
    match regionSize region.toNat with
    | none => refuse 0x60 tag .badValue s
    | some size =>
      if length.toNat = 0 ∨ size ≤ offset.toNat then refuse 0x60 tag .noData s
      else
        let n := readLength size offset.toNat length.toNat
        respond 0x60 tag (okOrClamped (n != length.toNat)) (regionBytes s region.toNat offset.toNat n) s

/-- WRITE_POLICY's tests in R196's order, for data of a length that R185 gives. -/
def answerWrite (tag : Byte) (offset : Nat) (data : List Byte) (s : State) : State :=
  match writeBlock offset data.length with
  | none => refuse 0x61 tag .badValue s
  | some b =>
    if b = .prot ∧ s.store.frozen then refuse 0x61 tag .denied s
    else if !writeInSets b s.store.image offset data then refuse 0x61 tag .badValue s
    else enterProcessing 0x61 tag (.writePolicy tag offset data (programmingMs data.length)) s

/-- WRITE_POLICY (R196); a payload of another length is refused as R181 refuses its frame. -/
def execWritePolicy (tag : Byte) (offset : BitVec 16) (data : List Byte) (s : State) : Host.Outcome State Fault Refusal :=
  setting s fun s =>
    if wfPolicyData data then answerWrite tag offset.toNat data s
    else latch .linkError .empty (refuse 0x61 tag .badLen s)

/-- POLICY_WRITE_COMPLETE (R196). -/
def execPolicyWriteComplete (s : State) : Host.Outcome State Fault Refusal :=
  event s fun s =>
    match s.link.processing with
    | some (.writePolicy tag offset data _) => completeWrite tag offset data s
    | _ => s

/-- The freeze cell's programming time in ms (R198). -/
def freezeMs : Nat := 5

/-- FREEZE_POLICY (R198). -/
def execFreezePolicy (tag confirmation : Byte) (s : State) : Host.Outcome State Fault Refusal :=
  setting s fun s =>
    if confirmation ≠ 0xC3 then refuse 0x62 tag .badValue s
    else if s.store.frozen then refuse 0x62 tag .denied s
    else if !blockValid s.store.image .prot || !s.store.protectedValid then refuse 0x62 tag .badState s
    else enterProcessing 0x62 tag (.freeze tag freezeMs) s

/-- FREEZE_COMPLETE (R198). -/
def execFreezeComplete (s : State) : Host.Outcome State Fault Refusal :=
  event s fun s =>
    match s.link.processing with
    | some (.freeze tag _) => finishProcessing 0x62 tag .ok [] (s.mapStore fun c => { c with frozen := true })
    | _ => s

end Sys2Proof.Machine
end

