-- ==== Sys2Proof/Machine/Dispatch.lean ====
section
/-! DEFINITION. One arm per command, each a direct call of its meaning. -/
namespace Sys2Proof.Machine

/-- The effect of a command on everything but the queue. -/
def exec (i : Instr) (s : State) : Host.Outcome State Fault Refusal :=
  match i with
  | .coldReset markerCut => Sys2Proof.Machine.execColdReset markerCut s
  | .emptyWrite => Sys2Proof.Machine.execEmptyWrite s
  | .addressNak => Sys2Proof.Machine.execAddressNak s
  | .frameError bytes => Sys2Proof.Machine.execFrameError bytes s
  | .getIdentity tag => Sys2Proof.Machine.execGetIdentity tag s
  | .resetLink tag confirmation => Sys2Proof.Machine.execResetLink tag confirmation s
  | .fetchNotice tag => Sys2Proof.Machine.execFetchNotice tag s
  | .readEventTable tag selector => Sys2Proof.Machine.execReadEventTable tag selector s
  | .setEventControl tag kind level mask => Sys2Proof.Machine.execSetEventControl tag kind level mask s
  | .setAttentionFloor tag floor => Sys2Proof.Machine.execSetAttentionFloor tag floor s
  | .getPowerStatus tag => Sys2Proof.Machine.execGetPowerStatus tag s
  | .requestPowerState tag target => Sys2Proof.Machine.execRequestPowerState tag target s
  | .setWakeSources tag sources => Sys2Proof.Machine.execSetWakeSources tag sources s
  | .setWakeTimer tag seconds => Sys2Proof.Machine.execSetWakeTimer tag seconds s
  | .getPosture tag => Sys2Proof.Machine.execGetPosture tag s
  | .readKeys tag count => Sys2Proof.Machine.execReadKeys tag count s
  | .setKeyboardControl tag keyboard route caps num mute level => Sys2Proof.Machine.execSetKeyboardControl tag keyboard route caps num mute level s
  | .setKeymapEntry tag position baseCode fnCode attributes => Sys2Proof.Machine.execSetKeymapEntry tag position baseCode fnCode attributes s
  | .getPackRecord tag slot fresh => Sys2Proof.Machine.execGetPackRecord tag slot fresh s
  | .freshReadAnswer => Sys2Proof.Machine.execFreshReadAnswer s
  | .getPackFault tag slot => Sys2Proof.Machine.execGetPackFault tag slot s
  | .getPowerPath tag => Sys2Proof.Machine.execGetPowerPath tag s
  | .setChargeLimits tag stop start => Sys2Proof.Machine.execSetChargeLimits tag stop start s
  | .calibrationStart tag operation slot => Sys2Proof.Machine.execCalibrationStart tag operation slot s
  | .calibrationSuspend tag slot => Sys2Proof.Machine.execCalibrationSuspend tag slot s
  | .calibrationResume tag slot => Sys2Proof.Machine.execCalibrationResume tag slot s
  | .calibrationAbort tag slot => Sys2Proof.Machine.execCalibrationAbort tag slot s
  | .calibrationStatusRead tag slot => Sys2Proof.Machine.execCalibrationStatusRead tag slot s
  | .getBudget tag => Sys2Proof.Machine.execGetBudget tag s
  | .setBudgetMode tag mode boost => Sys2Proof.Machine.execSetBudgetMode tag mode boost s
  | .getThermal tag => Sys2Proof.Machine.execGetThermal tag s
  | .setFanMode tag mode dutyA dutyB => Sys2Proof.Machine.execSetFanMode tag mode dutyA dutyB s
  | .readConfig tag region offset length => Sys2Proof.Machine.execReadConfig tag region offset length s
  | .writePolicy tag offset data => Sys2Proof.Machine.execWritePolicy tag offset data s
  | .policyWriteComplete => Sys2Proof.Machine.execPolicyWriteComplete s
  | .freezePolicy tag confirmation => Sys2Proof.Machine.execFreezePolicy tag confirmation s
  | .freezeComplete => Sys2Proof.Machine.execFreezeComplete s
  | .powerButtonPress => Sys2Proof.Machine.execPowerButtonPress s
  | .shortPress => Sys2Proof.Machine.execShortPress s
  | .longPress => Sys2Proof.Machine.execLongPress s
  | .powerGoodRise rail => Sys2Proof.Machine.execPowerGoodRise rail s
  | .powerGoodFall rail => Sys2Proof.Machine.execPowerGoodFall rail s
  | .upTimeoutExpiry => Sys2Proof.Machine.execUpTimeoutExpiry s
  | .downWaitExpiry => Sys2Proof.Machine.execDownWaitExpiry s
  | .settleExpiry => Sys2Proof.Machine.execSettleExpiry s
  | .rebootOffTimeExpiry => Sys2Proof.Machine.execRebootOffTimeExpiry s
  | .wakeTimerExpiry => Sys2Proof.Machine.execWakeTimerExpiry s
  | .restoreDecision => Sys2Proof.Machine.execRestoreDecision s
  | .refusalDisplayEnd => Sys2Proof.Machine.execRefusalDisplayEnd s
  | .escalationExpiry window => Sys2Proof.Machine.execEscalationExpiry window s
  | .adapterAttach => Sys2Proof.Machine.execAdapterAttach s
  | .adapterClassRead code => Sys2Proof.Machine.execAdapterClassRead code s
  | .adapterRemoval => Sys2Proof.Machine.execAdapterRemoval s
  | .adapterSample vin iin => Sys2Proof.Machine.execAdapterSample vin iin s
  | .hallDebouncedChange sensor active => Sys2Proof.Machine.execHallDebouncedChange sensor active s
  | .angleSample raw => Sys2Proof.Machine.execAngleSample raw s
  | .dwellExpiry => Sys2Proof.Machine.execDwellExpiry s
  | .conflictTimerExpiry => Sys2Proof.Machine.execConflictTimerExpiry s
  | .returnTimerExpiry => Sys2Proof.Machine.execReturnTimerExpiry s
  | .matrixScan raw => Sys2Proof.Machine.execMatrixScan raw s
  | .quietTimeExpiry => Sys2Proof.Machine.execQuietTimeExpiry s
  | .senseChange raw => Sys2Proof.Machine.execSenseChange raw s
  | .backlightIdleExpiry => Sys2Proof.Machine.execBacklightIdleExpiry s
  | .packInsertion slot => Sys2Proof.Machine.execPackInsertion slot s
  | .packPresenceFall slot => Sys2Proof.Machine.execPackPresenceFall slot s
  | .pollItemDue slot item => Sys2Proof.Machine.execPollItemDue slot item s
  | .identifyRetryExpiry slot => Sys2Proof.Machine.execIdentifyRetryExpiry slot s
  | .packAttemptStart stuck => Sys2Proof.Machine.execPackAttemptStart stuck s
  | .packAttemptEnd result => Sys2Proof.Machine.execPackAttemptEnd result s
  | .alarmMessage bytes => Sys2Proof.Machine.execAlarmMessage bytes s
  | .alarmClockTimeout bytes => Sys2Proof.Machine.execAlarmClockTimeout bytes s
  | .itemStale slot item => Sys2Proof.Machine.execItemStale slot item s
  | .switchOverExpiry => Sys2Proof.Machine.execSwitchOverExpiry s
  | .sessionTimerExpiry => Sys2Proof.Machine.execSessionTimerExpiry s
  | .prechargeTimeout => Sys2Proof.Machine.execPrechargeTimeout s
  | .budgetRetryExpiry => Sys2Proof.Machine.execBudgetRetryExpiry s
  | .dischargeTimeout => Sys2Proof.Machine.execDischargeTimeout s
  | .restExpiry => Sys2Proof.Machine.execRestExpiry s
  | .energyFirstJudgement => Sys2Proof.Machine.execEnergyFirstJudgement s
  | .budgetEvaluation => Sys2Proof.Machine.execBudgetEvaluation s
  | .conversionRound soc charger deck base => Sys2Proof.Machine.execConversionRound soc charger deck base s
  | .startUpHoldEnd => Sys2Proof.Machine.execStartUpHoldEnd s
  | .tachWindowEnd pulsesA pulsesB => Sys2Proof.Machine.execTachWindowEnd pulsesA pulsesB s
  | .powerButtonRelease => Sys2Proof.Machine.execPowerButtonRelease s

end Sys2Proof.Machine
end

