-- ==== Sys2Proof/Machine/Tick.lean ====
section
/-! DEFINITION. The part's own time: what one millisecond does to the running timers, and which timed event is due. The
block takes it when no command waits (log entry 1). -/
namespace Sys2Proof.Machine

/-! ### One millisecond -/

/-- A countdown. -/
def countDown (t : Option Nat) : Option Nat := t.map (· - 1)

/-- A countdown beside a value. -/
def countDownWith {α : Type} (t : Option (α × Nat)) : Option (α × Nat) := t.map fun p => (p.1, p.2 - 1)

/-- The wake timer counts once per second in SLEEP and OFF; when its count reaches 0 it disarms itself and its expiry is
due (R18). -/
def Sequencer.wakeSecond (p : Sequencer) : Sequencer :=
  match p.wakeTimer with
  | none => p
  | some n =>
    if p.state = .sleep ∨ p.state = .off then
      if p.wakeTimerMs + 1 < 1000 then { p with wakeTimerMs := p.wakeTimerMs + 1 }
      else if n ≤ 1 then { p with wakeTimer := none, wakeTimerMs := 0, wakeExpired := true }
      else { p with wakeTimer := some (n - 1), wakeTimerMs := 0 }
    else p

/-- The sequencer's timers (R4, R7, R10, R13, R15, R18, R27). -/
def Sequencer.pass (p : Sequencer) : Sequencer :=
  { p.wakeSecond with
    transition := countDownWith p.transition,
    reboot := p.reboot.map fun r => match r with | .waiting => .waiting | .offTime ms => .offTime (ms - 1),
    upWait := countDownWith p.upWait, downWait := countDownWith p.downWait,
    button := match p.button with | .held ms => .held (ms + 1) | b => b,
    refusalDisplay := countDown p.refusalDisplay }

/-- The posture monitor's timers (R37, R39, R42). -/
def PostureMonitor.pass (p : PostureMonitor) : PostureMonitor :=
  { p with dwell := p.dwell - 1, conflict := p.conflict.map fun e => min Config.conflictMs (e + 1),
           returnElapsed := if p.returning then min Config.returnMs (p.returnElapsed + 1) else p.returnElapsed }

/-- The quiet time's end in ms (R49). -/
def quietMs : Nat := 250

/-- The scanner's timers (R49, R71). -/
def Keyboard.pass (k : Keyboard) : Keyboard :=
  { k with idle := countDown k.idle,
           quiet := if k.mode = .active ∧ k.positions.isEmpty then min quietMs (k.quiet + 1) else k.quiet }

/-- A slot's ages and its retry time (R88, R91). The age of an item that has no value stays 0 (DESIGN CHOICE: R91 and R190
give no age before the first read; log entry 44). -/
def PackSlot.pass (p : PackSlot) : PackSlot :=
  { p with retry := countDown p.retry,
           items := p.items.map fun _ e => { e with age := if e.value.isSome then min 65535 (e.age + 1) else e.age } }

/-- The selected pack's phase, IDLE when none is selected. -/
def Charger.sessionPhase (c : Charger) : ChargePhase :=
  match c.selected with
  | none => .idle
  | some k => (c.packs.get k).phase

/-- The calibration times of an unsuspended phase (R117, R118). -/
def CalRecord.pass (c : CalRecord) : CalRecord :=
  if c.suspension = .clear then
    match c.phase with
    | .discharge => { c with dischargeMs := c.dischargeMs + 1 }
    | .rest => { c with restMs := c.restMs - 1 }
    | _ => c
  else c

/-- The charge controller's timers (R99, R105, R109, R111, R117, R118). -/
def Charger.pass (c : Charger) : Charger :=
  { c with classWait := countDown c.classWait, switchOver := countDown c.switchOver,
           budgetRetry := countDown c.budgetRetry,
           sessionMs := if timedPhase c.sessionPhase then c.sessionMs + 1 else c.sessionMs,
           prechargeMs := if c.sessionPhase = .precharge then c.prechargeMs + 1 else c.prechargeMs, cal := c.cal.pass }

/-- The escalation windows (R175). -/
def Notices.pass (n : Notices) : Notices :=
  { n with critWindow := countDown n.critWindow, tripWindow := countDown n.tripWindow }

/-- The programming time of a request in processing (R193). -/
def Processing.pass : Processing → Processing
  | .freshRead tag k done => .freshRead tag k done
  | .writePolicy tag offset data ms => .writePolicy tag offset data (ms - 1)
  | .freeze tag ms => .freeze tag (ms - 1)

/-- One millisecond of running time. -/
def passMs (s : State) : State :=
  { s with now := s.now + 1, pwr := s.pwr.pass, post := s.post.pass, kbd := s.kbd.pass,
           packs := { int := s.packs.int.pass, rear := s.packs.rear.pass }, chg := s.chg.pass, notice := s.notice.pass,
           link := { s.link with processing := s.link.processing.map Processing.pass } }

/-! ### Due events -/

/-- A command when its time has come. -/
def dueWhen (c : Instr) (due : Bool) : List Instr := if due then [c] else []

/-- The link controller's and the store's due events. -/
def linkDue (s : State) : List Instr :=
  match s.link.processing with
  | some (.freshRead _ _ true) => [.freshReadAnswer]
  | some (.writePolicy _ _ _ 0) => [.policyWriteComplete]
  | some (.freeze _ 0) => [.freezeComplete]
  | _ => []

/-- The sequencer's due events. -/
def powerDue (s : State) : List Instr :=
  let p := s.pwr
  dueWhen .longPress (match p.button with | .held ms => decide (longPressOf s.store.policy ≤ ms) | _ => false)
    ++ dueWhen .upTimeoutExpiry (decide (p.upWait.map Prod.snd = some 0))
    ++ dueWhen .downWaitExpiry (decide (p.downWait.map Prod.snd = some 0))
    ++ dueWhen .settleExpiry (decide (p.transition.map Prod.snd = some 0))
    ++ dueWhen .rebootOffTimeExpiry (decide (p.reboot = some (.offTime 0)))
    ++ dueWhen .wakeTimerExpiry (p.wakeExpired && decide (p.state = .sleep ∨ p.state = .off))
    ++ dueWhen .restoreDecision (decide (1000 ≤ s.now) && !p.restoreTaken)
    ++ dueWhen .refusalDisplayEnd (decide (p.refusalDisplay = some 0))
    ++ dueWhen (.escalationExpiry .criticalEnergy) (decide (s.notice.critWindow = some 0))
    ++ dueWhen (.escalationExpiry .thermalTrip) (decide (s.notice.tripWindow = some 0))

/-- The posture monitor's and the scanner's due events. -/
def postureDue (s : State) : List Instr :=
  dueWhen .dwellExpiry (s.post.candidate.isSome && decide (s.post.dwell = 0))
    ++ dueWhen .conflictTimerExpiry (decide (s.post.conflict = some Config.conflictMs))
    ++ dueWhen .returnTimerExpiry
      (decide (s.post.mode = .hallOnly) && s.post.returning && decide (Config.returnMs ≤ s.post.returnElapsed))
    ++ dueWhen .quietTimeExpiry (decide (s.kbd.mode = .active) && s.kbd.positions.isEmpty && decide (quietMs ≤ s.kbd.quiet))
    ++ dueWhen .backlightIdleExpiry (decide (s.kbd.idle = some 0))

/-- A slot's items that come due. -/
def pollsDue (s : State) (k : Slot) : List Instr :=
  allDynItems.flatMap fun i =>
    dueWhen (.pollItemDue k i) (scheduleRuns (s.pack k) && polled s k i && decide (nextDue s k i ≤ s.now) &&
      !inService s.bus k (.dyn i))

/-- A slot's items that go stale. -/
def stalesDue (s : State) (k : Slot) : List Instr :=
  allDynItems.flatMap fun i =>
    dueWhen (.itemStale k i) ((s.item k i).valid && decide (3 * period s k i < (s.item k i).age))

/-- The pack bus controller's due events. -/
def packDue (s : State) : List Instr :=
  pollsDue s .int ++ pollsDue s .rear
    ++ dueWhen (.identifyRetryExpiry .int) (decide ((s.pack .int).retry = some 0))
    ++ dueWhen (.identifyRetryExpiry .rear) (decide ((s.pack .rear).retry = some 0))
    ++ stalesDue s .int ++ stalesDue s .rear

/-- The charge controller's due events. -/
def chargeDue (s : State) : List Instr :=
  let c := s.chg
  dueWhen .switchOverExpiry (decide (c.switchOver = some 0))
    ++ dueWhen .sessionTimerExpiry (timedPhase c.sessionPhase && decide (sessionLimitMs s.store.policy ≤ c.sessionMs))
    ++ dueWhen .prechargeTimeout
      (decide (c.sessionPhase = .precharge) && decide (Config.prechargeLimitMs ≤ c.prechargeMs))
    ++ dueWhen .budgetRetryExpiry (decide (c.budgetRetry = some 0))
    ++ dueWhen .dischargeTimeout (discharging c.cal && decide (Config.dischargeLimitMs ≤ c.cal.dischargeMs))
    ++ dueWhen .restExpiry (decide (c.cal.phase = .rest) && decide (c.cal.suspension = .clear) && decide (c.cal.restMs = 0))
    ++ dueWhen .energyFirstJudgement (decide (1000 ≤ s.now) && !c.judging)

/-- The rhythm of the budget evaluations (R125). -/
def evaluationMs : Nat := 250

/-- The budget unit's and the thermal controller's due events. -/
def budgetDue (s : State) : List Instr :=
  dueWhen .budgetEvaluation (decide (0 < s.now) && decide (s.now % evaluationMs = 0) && decide (s.bud.evalAt ≠ s.now))
    ++ dueWhen .startUpHoldEnd (decide (1000 ≤ s.now) && !s.thr.holdOver)

/-- The timed events that need no reading from outside and whose time has come, in the order of the table. -/
def dueEvents (s : State) : List Instr :=
  linkDue s ++ powerDue s ++ postureDue s ++ packDue s ++ chargeDue s ++ budgetDue s

end Sys2Proof.Machine
end

