-- ==== Sys2Proof/Machine/Step.lean ====
section
/-! DEFINITION. One step: the command at the front of the queue, or the part's own time when none waits. -/
namespace Sys2Proof.Machine

/-- With no command waiting, the first timed event that is due is taken, else one millisecond passes (log entry 1). -/
def idle (s : State) : Host.Outcome State Fault Refusal :=
  match dueEvents s with
  | [] => .next (passMs s)
  | c :: _ => exec c s

/-- One step. -/
def step (s : State) : Host.Outcome State Fault Refusal :=
  match s.pending with
  | [] => idle s
  | c :: rest => exec c { s with pending := rest }

/-- The command that a word spells is put at the front of the queue; no row of the table gives bits, so no word spells
one. -/
def State.withFetchWord (s : State) (nbits w : Nat) : State :=
  match Sys2Proof.decodeTableWord nbits w with
  | some c => { s with pending := c :: s.pending }
  | none => s

end Sys2Proof.Machine
end

