-- ==== Sys2Proof/Safety.lean ====
section
/-! DEFINITION. What counts as a safe run: every step answers a next state. The part has no fault and refuses no command, so
a step that stops would be a defect of the model. -/
namespace Sys2Proof.Machine

/-- An outcome is a next state. -/
def isNext : Host.Outcome State Fault Refusal → Prop
  | .next _ => True
  | .fault _ => False
  | .refused _ => False

/-- A state from which the next `n` steps all answer a next state. -/
def safeFor : Nat → State → Prop
  | 0, _ => True
  | n + 1, s =>
    match step s with
    | .next t => safeFor n t
    | .fault _ => False
    | .refused _ => False

end Sys2Proof.Machine
end

