-- ==== Sys2Proof/Certificates/Slice0/Obligations.lean ====
section
/-! DEFINITION. The statements for the provers, chapter by chapter, and the words they are said in. -/
namespace Sys2Proof.Claims

open Sys2Proof Sys2Proof.Machine

/-! ### The words of the statements -/

/-- A state with a response frame in its slot; nothing else differs. -/
def answered (s : State) (rkind tag : Byte) (status : Status) (payload : List Byte) : State :=
  { s with link := { s.link with slot := { rkind := rkind, tag := tag, status := status, payload := payload } } }

/-- The number that `n` payload bytes hold from byte `o` on, least significant first. -/
def field (p : List Byte) (o n : Nat) : Nat := fromLe ((p.drop o).take n)

/-- What a command leaves once its own effect has made the state `u`: the energy status is judged when a valid flag has changed
with the adapter away, and the pins follow (R26, R121). -/
def ended (s u : State) : State := refreshPins (judgeFlags s u)

/-- A command that a write to 0x2C carries: a request frame, or a frame that is refused. -/
def carriedByWrite (c : Instr) : Prop := (frameOf c).isSome = true ∨ ∃ bytes, c = .frameError bytes

/-- The values that the PROTECTED block gives the active policy (R192). -/
def protectedValues (p : Policy) : List Nat × List Int :=
  ([p.perCellMax, p.acceptLow, p.acceptHigh, p.limits.int, p.limits.rear, p.critWindow, p.tripWindow, p.pMax, p.hMax, p.hMin],
   [p.socTrip, p.socHard, p.chargerTrip, p.chargerHard])

/-- A policy with the PROTECTED values of another. -/
def withProtected (q p : Policy) : Policy :=
  { q with perCellMax := p.perCellMax, acceptLow := p.acceptLow, acceptHigh := p.acceptHigh, limits := p.limits,
           critWindow := p.critWindow, tripWindow := p.tripWindow, pMax := p.pMax, hMax := p.hMax, hMin := p.hMin,
           socTrip := p.socTrip, socHard := p.socHard, chargerTrip := p.chargerTrip, chargerHard := p.chargerHard }

/-- A WRITE_POLICY into the PROTECTED block is in processing. -/
def writesProtected (s : State) : Prop :=
  ∃ tag offset data ms, s.link.processing = some (.writePolicy tag offset data ms) ∧ writeBlock offset data.length = some .prot

/-- A write of `n` bytes at an offset touches a field (R196). -/
def touches (offset n place size : Nat) : Prop := place < offset + n ∧ offset < place + size

/-- The number that a field's bytes spell once the data are written over the image (R196). -/
def spelled (image : Memory) (offset : Nat) (data : List Byte) (place size : Nat) : Nat :=
  fromLe ((List.range size).map fun i =>
    if offset ≤ place + i ∧ place + i < offset + data.length then data.getD (place + i - offset) 0 else image.read (place + i))

/-- The number that a field's stored bytes spell. -/
def spelledIn (image : Memory) (place size : Nat) : Nat := fromLe ((List.range size).map fun i => image.read (place + i))

/-- A stored number brought into the range of its kind (R194, R196; F and Pmax: log entry 41). -/
def inRangeOf (k : FieldKind) (raw : Nat) : Nat :=
  match k with
  | .range lo hi => max lo (min hi raw)
  | .signed lo hi => (BitVec.ofInt 16 (max lo (min hi (BitVec.ofNat 16 raw).toInt))).toNat
  | .idle => if raw = 0 then 0 else max 5 (min 600 raw)
  | .plain | .choice _ | .attributes => raw

/-- The numbers of R192's tables: place, bytes, range and active value. -/
def numbers : List (Nat × Nat × Nat × Nat × (Policy → Nat)) :=
  [(0x000, 2, 3000, 4400, fun p => p.perCellMax), (0x002, 2, 5000, 20000, fun p => p.acceptLow),
   (0x004, 2, 5000, 20000, fun p => p.acceptHigh), (0x012, 4, 1000, 120000, fun p => p.critWindow),
   (0x016, 4, 1000, 120000, fun p => p.tripWindow), (0x01A, 4, 10000, 100000, fun p => p.pMax),
   (0x01E, 2, 20000, 65000, fun p => p.hMax), (0x020, 2, 5000, 30000, fun p => p.hMin),
   (0x200, 1, 1, 100, fun p => p.upTimeout), (0x202, 2, 2000, 10000, fun p => p.longPress),
   (0x204, 2, 0, 2000, fun p => p.settleDelay), (0x206, 1, 0, 20, fun p => p.bootFloor),
   (0x209, 1, 1, 8, fun p => p.pressCount), (0x20A, 1, 1, 8, fun p => p.releaseCount),
   (0x20B, 1, 0, 3, fun p => p.backlightDefault),
   (0x214, 1, 1, 24, fun p => p.sessionHours), (0x215, 1, 0, 240, fun p => p.restMinutes),
   (0x216, 1, 50, 100, fun p => p.stopDefault), (0x217, 1, 40, 95, fun p => p.startDefault),
   (0x218, 1, 50, 100, fun p => p.longevityStop), (0x219, 1, 40, 95, fun p => p.longevityStart),
   (0x21A, 1, 0, 50, fun p => p.lowThreshold), (0x21B, 1, 0, 50, fun p => p.criticalThreshold),
   (0x21C, 2, 500, 1000, fun p => p.derate), (0x21E, 2, 0, 30000, fun p => p.bRun),
   (0x220, 2, 0, 30000, fun p => p.bIdle), (0x222, 2, 1000, 10000, fun p => p.floorPower),
   (0x224, 2, 0, 500, fun p => p.heatShare), (0x228, 1, 0, 100, fun p => p.boostFloor),
   (0x244, 1, 20, 100, fun p => p.safeFloor.a), (0x245, 1, 20, 100, fun p => p.safeFloor.b)]

/-- The temperatures and currents of R192's tables, two signed bytes each (00_scope.md, Units and number forms): place, range
and active value. -/
def signedNumbers : List (Nat × Int × Int × (Policy → Int)) :=
  [(0x00A, 300, 1250, fun p => p.socTrip), (0x00C, 300, 1250, fun p => p.socHard),
   (0x00E, 300, 1250, fun p => p.chargerTrip), (0x010, 300, 1250, fun p => p.chargerHard),
   (0x22A, 300, 1250, fun p => p.socL), (0x22C, 300, 1250, fun p => p.socWarn),
   (0x22E, 300, 1250, fun p => p.chargerL), (0x230, 300, 1250, fun p => p.chargerWarn),
   (0x232, 300, 1250, fun p => p.deckL.closed), (0x234, 300, 1250, fun p => p.deckL.laptop),
   (0x236, 300, 1250, fun p => p.deckL.tent), (0x238, 300, 1250, fun p => p.deckL.tablet),
   (0x23A, 300, 1250, fun p => p.baseL.closed), (0x23C, 300, 1250, fun p => p.baseL.laptop),
   (0x23E, 300, 1250, fun p => p.baseL.tent), (0x240, 300, 1250, fun p => p.baseL.tablet),
   (0x242, 10, 300, fun p => p.span), (0x006, 0, 4032, fun p => p.limits.int),
   (0x008, 0, 4032, fun p => p.limits.rear), (0x212, 50, 500, fun p => p.terminationCurrent)]

/-- The enumerated fields of R192's tables, one byte each, the set of wake causes among them: place, how many values, and
whether the active policy holds a value, numbered as the owning rule lists them (R187, R192). -/
def choices : List (Nat × Nat × (Policy → Nat → Bool)) :=
  [(0x201, 3, fun p v => [RestorePolicy.stayOff, .alwaysOn, .lastState][v]? == some p.restore),
   (0x207, 2, fun p v => [false, true][v]? == some p.powerOnAtAdapter),
   (0x208, 64, fun p v => p.wakeDefault == { lidOpen := v.testBit 1, keyboard := v.testBit 2, adapterChange := v.testBit 3,
                                             packChange := v.testBit 4, timer := v.testBit 5 }),
   (0x20E, 2, fun p v => [true, false][v]? == some p.keyboardDefault),
   (0x20F, 2, fun p v => [HotkeyRoute.scanner, .host][v]? == some p.routeDefault),
   (0x210, 2, fun p v => [true, false][v]? == some p.dischargeRearFirst),
   (0x211, 2, fun p v => [true, false][v]? == some p.chargeIntFirst),
   (0x226, 2, fun p v => [BudgetMode.chargeFirst, .performanceFirst][v]? == some p.modeDefault),
   (0x227, 2, fun p v => [true, false][v]? == some p.boostDefault),
   (0x229, 3, fun p v => [FanMode.auto, .quiet, .performance][v]? == some p.fanModeDefault)]

/-- A write leaves an enumerated field that it touches outside its set, a keymap entry's hotkey action among them (R192,
R196). A wake-set default of 64 or more is outside, and no other bit of a keymap attribute byte is tested (log entry 18). -/
def outsideSets (image : Memory) (offset : Nat) (data : List Byte) : Prop :=
  (∃ place n is, (place, n, is) ∈ choices ∧ touches offset data.length place 1 ∧ n ≤ spelled image offset data place 1) ∨
  (∃ q, q < 128 ∧ touches offset data.length (0x082 + 3 * q) 1 ∧
    4 < spelled image offset data (0x082 + 3 * q) 1 / 16 % 8)

/-- A keymap entry holds the attribute byte (R192). -/
def hasAttributes (e : KeyEntry) (v : Nat) : Prop :=
  e.modifier = v.testBit 0 ∧ e.fnKey = v.testBit 1 ∧ e.wake = v.testBit 2 ∧
  (v / 16 % 8 ≤ 4 → [HotkeyAction.none, .fanBoost, .fanQuiet, .backlightStep, .chargeLimitToggle][v / 16 % 8]? = some e.hotkey)

/-- The place of a fan's curve (R192). -/
def curvePlace : Fan → Nat
  | .a => 0x246
  | .b => 0x25F

/-- The active policy `new` takes every touched field of R192's tables, by place and bytes, from its value brought into the
field's range, and keeps the others of `old` (R194, R196; an enumeration outside its set is one inside it, log entry 16). -/
structure TakenFrom (touched : Nat → Nat → Prop) (value : Nat → Nat → Nat) (old new : Policy) : Prop where
  number : ∀ place size lo hi get, (place, size, lo, hi, get) ∈ numbers →
    (touched place size → get new = max lo (min hi (value place size))) ∧ (¬ touched place size → get new = get old)
  signed : ∀ place lo hi get, (place, lo, hi, get) ∈ signedNumbers →
    (touched place 2 → get new = max lo (min hi (BitVec.ofNat 16 (value place 2)).toInt)) ∧
    (¬ touched place 2 → get new = get old)
  idle : (touched 0x20C 2 → new.idleTime = inRangeOf .idle (value 0x20C 2)) ∧ (¬ touched 0x20C 2 → new.idleTime = old.idleTime)
  choice : ∀ place n is, (place, n, is) ∈ choices →
    (touched place 1 → (value place 1 < n → is new (value place 1) = true) ∧ ∃ v, v < n ∧ is new v = true) ∧
    (¬ touched place 1 → ∀ v, v < n → is new v = is old v)
  keys : sparseWf builtInKey 0 old.keymap = true → ∀ q, q < 128 →
    (touched (0x080 + 3 * q) 1 → (policyKey new q).base.toNat = value (0x080 + 3 * q) 1) ∧
    (¬ touched (0x080 + 3 * q) 1 → (policyKey new q).base = (policyKey old q).base) ∧
    (touched (0x081 + 3 * q) 1 → (policyKey new q).fn.toNat = value (0x081 + 3 * q) 1) ∧
    (¬ touched (0x081 + 3 * q) 1 → (policyKey new q).fn = (policyKey old q).fn) ∧
    (touched (0x082 + 3 * q) 1 → hasAttributes (policyKey new q) (value (0x082 + 3 * q) 1)) ∧
    (¬ touched (0x082 + 3 * q) 1 →
      { policyKey new q with base := 0, fn := 0 } = { policyKey old q with base := 0, fn := 0 })
  count : ∀ f, (touched (curvePlace f) 1 → (new.curves.get f).count = min 8 (value (curvePlace f) 1)) ∧
    (¬ touched (curvePlace f) 1 → (new.curves.get f).count = (old.curves.get f).count)
  points : ∀ f i, i < (old.curves.get f).points.length → i < 8 → ∃ t d, (new.curves.get f).points[i]? = some (t, d) ∧
    (touched (curvePlace f + 1 + 3 * i) 2 → t = (BitVec.ofNat 16 (value (curvePlace f + 1 + 3 * i) 2)).toInt) ∧
    (¬ touched (curvePlace f + 1 + 3 * i) 2 → ((old.curves.get f).points[i]?).map Prod.fst = some t) ∧
    (touched (curvePlace f + 3 + 3 * i) 1 → d = min 100 (value (curvePlace f + 3 + 3 * i) 1)) ∧
    (¬ touched (curvePlace f + 3 + 3 * i) 1 → ((old.curves.get f).points[i]?).map Prod.snd = some d)

/-- The payload `q` that a pending entry of payload `old` keeps at a second occurrence: sets and alarm flags are the union of
both, and any other payload stays the first (R166, R168). -/
def joined (old new q : Payload) : Prop :=
  match old, new with
  | .sensors a, .sensors b => q = .sensors
      { soc := a.soc || b.soc, charger := a.charger || b.charger, deck := a.deck || b.deck, base := a.base || b.base }
  | .slots a, .slots b => q = .slots { int := a.int || b.int, rear := a.rear || b.rear }
  | .packAlarm a f, .packAlarm b g => q = .packAlarm { int := a.int || b.int, rear := a.rear || b.rear } (f ||| g)
  | _, _ => q = old

/-- The pins as R27, R69, R70, R123 and R170 give them. -/
structure PinsFollow (s : State) : Prop where
  alert : s.pins.alert = true ↔
    s.pwr.state = .run ∧ ∃ k, (s.entry k).pending = true ∧ (s.entry k).mask = false ∧ s.notice.floor < (s.entry k).level
  caps : s.pins.capsLamp = true ↔ s.pwr.state = .run ∧ s.kbd.caps = true
  num : s.pins.numLamp = true ↔ s.pwr.state = .run ∧ s.kbd.num = true
  mute : s.pins.muteLamp = true ↔ s.pwr.state = .run ∧ s.kbd.mute = true
  backlight : s.pins.backlight =
    if s.pwr.state = .run ∧ s.post.posture ≠ .closed ∧ s.kbd.dimmed = false then
      match s.kbd.level with | 0 => 0 | 1 => 30 | 2 => 60 | _ => 100
    else 0
  powerLed : s.pins.powerLed.pattern =
    if s.pwr.refusalDisplay.isSome then .double 1000 125
    else match s.pwr.state with
      | .run | .powerUp | .resume => .steady
      | .sleep | .sleepEntry => .single 4000 500
      | .faultOff => .double 2000 250
      | .off | .powerDown => .off
  chargeLed : s.pins.chargeLed.pattern =
    if s.chg.packs.int.phase = .fault ∨ s.chg.packs.rear.phase = .fault then .double 1000 125
    else if s.chg.cal.phase = .discharge ∨ s.chg.cal.phase = .rest ∨ s.chg.cal.phase = .charge then .single 1000 500
    else if ∃ k, s.chg.selected = some k ∧ ((s.chg.packs.get k).phase = .qualify ∨ (s.chg.packs.get k).phase = .precharge ∨
        (s.chg.packs.get k).phase = .constantCurrent ∨ (s.chg.packs.get k).phase = .constantVoltage) then .steady
    else if s.chg.adapter.present = false ∧ s.chg.energy ≠ .normal then .single 2000 250
    else .off

/-- The host's settings of the event table as R168 and R169 bound them. -/
def ControlsLegal (s : State) : Prop :=
  (∀ k, 1 ≤ (s.entry k).level ∧ (s.entry k).level ≤ 7) ∧
  (∀ k, k = .criticalEnergy ∨ k = .thermalTrip → (s.entry k).level = 7 ∧ (s.entry k).mask = false)

/-- What the power sequencer's events leave alone. -/
def beside (s : State) : PostureMonitor × Budget × Thermal × Link × Store × Nat :=
  (s.post, s.bud, s.thr, s.link, s.store, s.now)

/-- The state with the sequencer's record replaced. -/
def withPower (s : State) (p : Sequencer) : State := { s with pwr := p }

/-- The start energy check (R12). -/
def passesStart (s : State) : Prop :=
  s.chg.adapter.present = true ∨ ∃ k, (s.pack k).state = .active ∧ (s.pack k).status.getLsbD 3 = false ∧
    (s.item k .rsoc).valid = true ∧ ∃ w, (s.item k .rsoc).value = some w ∧ min 20 s.store.policy.bootFloor ≤ w.toNat

/-- A sensor's HARD crossing holds. -/
def hardCrossing (s : State) : Prop := ∃ x, (s.sensor x).hard = true

/-- The wake timer is armed, or has reached 0 with its expiry still to be taken (R18). -/
def timerDue (s : State) : Prop := s.pwr.wakeTimer.isSome = true ∨ s.pwr.wakeExpired = true

/-- The states in which the wake timer counts (R18). -/
abbrev timerCounts (s : State) : Prop := s.pwr.state = .sleep ∨ s.pwr.state = .off

/-- The sequencer's record with the wake timer disarmed and its expiry taken (R18). -/
def timerSpent (s : State) : Sequencer := { s.pwr with wakeTimer := none, wakeTimerMs := 0, wakeExpired := false }

/-- The command makes a power-on request with a cause (R12); `p` is the sequencer's record with the source's own part done. -/
def asksForPower (c : Instr) (s : State) (cause : WakeCause) (p : Sequencer) : Prop :=
  (c = .shortPress ∧ cause = .button ∧ (∃ ms, s.pwr.button = .held ms) ∧
    (s.pwr.state = .off ∨ (s.pwr.state = .faultOff ∧ s.pwr.failureCount < 3)) ∧ p = { s.pwr with button := .released }) ∨
  (c = .rebootOffTimeExpiry ∧ cause = .reboot ∧ s.pwr.state = .off ∧ (∃ ms, s.pwr.reboot = some (.offTime ms)) ∧
    p = { s.pwr with reboot := none }) ∨
  (c = .wakeTimerExpiry ∧ cause = .timer ∧ s.pwr.state = .off ∧ timerDue s ∧ p = timerSpent s) ∨
  (c = .restoreDecision ∧ cause = .restore ∧ s.pwr.state = .off ∧ s.pwr.restoreTaken = false ∧
    (s.store.policy.restore = .alwaysOn ∨ (s.store.policy.restore = .lastState ∧ s.store.marker = true)) ∧
    p = { s.pwr with restoreTaken := true })

/-- A refused power-on request: its cause in the record, and the refusal display from now on (R12, R27). -/
def refusedPower (s : State) (p : Sequencer) (cause : RefusalCause) : State :=
  { s with pwr := { p with refusal := cause, refusalDisplay := some 3000 },
           pins := { s.pins with powerLed := { pattern := .double 1000 125, since := s.now } } }

/-- The command starts a way down with a cause (R11, R14, R22): `p` is the record with what it clears cleared. -/
def startsDown (c : Instr) (s : State) (new : PlatformState) (p : Sequencer) : Prop :=
  (c = .longPress ∧ new = .powerDown ∧ (∃ ms, s.pwr.button = .held ms) ∧
    (s.pwr.state = .powerUp ∨ s.pwr.state = .run ∨ s.pwr.state = .sleep ∨ s.pwr.state = .resume) ∧
    p = { s.pwr with button := .spent, transition := none, reboot := none, downCause := .longPress }) ∨
  (∃ w, c = .escalationExpiry w ∧ new = .powerDown ∧ windowLeft w s ≠ none ∧ s.pwr.state = .run ∧
    p = { s.pwr with transition := none, reboot := none, heldWake := none, downCause := .escalation }) ∨
  (c = .settleExpiry ∧ new = .powerDown ∧ (∃ ms, s.pwr.transition = some (.off, ms)) ∧
    p = { s.pwr with transition := none, downCause := .hostOff }) ∨
  (c = .settleExpiry ∧ new = .powerDown ∧ (∃ ms, s.pwr.transition = some (.reboot, ms)) ∧
    p = { s.pwr with transition := none, reboot := some .waiting, downCause := .hostReboot }) ∨
  (c = .settleExpiry ∧ new = .sleepEntry ∧ s.pwr.upWait = none ∧ (∃ ms, s.pwr.transition = some (.sleep, ms)) ∧
    p = { s.pwr with transition := none, downCause := .hostSleep, wakeCause := .none })

/-- The rails that a way down disables, in order (R7). -/
def downRails (x : PlatformState) : List Rail :=
  if x = .sleepEntry then [.disp, .periph, .core, .io] else [.disp, .periph, .core, .io, .mem]

/-- A rail at which the way down does not wait: it is not enabled, or its power-good is already low (R7). -/
def isPassed (s : State) (x : Rail) : Prop := (s.pwr.rails.get x).enabled = false ∨ (s.pwr.rails.get x).good = false

/-- The rails after the way down has gone past some of them without a wait (R7). -/
def passed (rails : PerRail RailEntry) : List Rail → PerRail RailEntry
  | [] => rails
  | x :: rest => passed (if (rails.get x).enabled then
      rails.set x { enabled := false, good := (rails.get x).good, outcome := .downOk } else rails) rest

/-- The rail's entry with its outcome and its power-good as a command leaves them. -/
def railAfter (p : Sequencer) (r : Rail) (e : RailEntry) : Sequencer := { p with rails := p.rails.set r e }

/-- The down wait of a rail ends with an outcome: its power-good falls, or the wait expires. -/
def endsWait (c : Instr) (s : State) (r : Rail) (e : RailEntry) : Prop :=
  (c = .powerGoodFall r ∧ (s.pwr.rails.get r).good = true ∧
    e = { enabled := (s.pwr.rails.get r).enabled, good := false, outcome := .downOk }) ∨
  (c = .downWaitExpiry ∧
    e = { enabled := (s.pwr.rails.get r).enabled, good := (s.pwr.rails.get r).good, outcome := .downSlow })

/-- A rail's entry after every rail is disabled at once (R8). -/
def disabled (e : RailEntry) : RailEntry := { e with enabled := false }

/-- The event is a rail fault of a phase and an outcome (R4, R6, R7, R8). -/
def faultsRail (c : Instr) (s : State) (r : Rail) (phase : FaultPhase) (e : RailEntry) : Prop :=
  (c = .upTimeoutExpiry ∧ phase = .up ∧ (∃ ms, s.pwr.upWait = some (r, ms)) ∧
    e = { enabled := false, good := (s.pwr.rails.get r).good, outcome := .upTimeout }) ∨
  (c = .powerGoodFall r ∧ (s.pwr.rails.get r).enabled = true ∧ (s.pwr.rails.get r).good = true ∧
    (∀ ms, s.pwr.downWait ≠ some (r, ms)) ∧
    ((s.pwr.state = .powerUp ∧ phase = .up) ∨
      ((s.pwr.state = .run ∨ s.pwr.state = .sleep ∨ s.pwr.state = .resume) ∧ phase = .run) ∨
      (s.pwr.state = .sleepEntry ∧ r = .mem ∧ phase = .down)) ∧
    e = { enabled := false, good := false, outcome := .lost })

/-- The entry of RAIL_EVENT after a latch of a record. -/
def railEventLatched (s t : State) (r : Rail) (phase : Option FaultPhase) : Prop :=
  ((s.entry .railEvent).pending = false → t.entry .railEvent = { s.entry .railEvent with
    pending := true, count := 1, payload := .railEvent r phase, latchTime := time32 s.now }) ∧
  ((s.entry .railEvent).pending = true → t.entry .railEvent = { s.entry .railEvent with
    count := min 15 ((s.entry .railEvent).count + 1) })

/-- RAIL_EVENT takes a SLOW_DISCHARGE of the rail when its down wait expires, and else stays (R7). -/
def slowLatched (c : Instr) (s t : State) (r : Rail) : Prop :=
  (c = .downWaitExpiry → railEventLatched s t r none) ∧ (c ≠ .downWaitExpiry → t.entry .railEvent = s.entry .railEvent)

/-- An escalation window at an event that starts it: it runs with its full length when its condition holds, and a running one
keeps its time (R175). -/
def windowStarts (condition : Prop) (length : Nat) (before after : Option Nat) : Prop :=
  (condition → before = none → after = some (max 1000 (min 120000 length))) ∧ (¬ condition ∨ before ≠ none → after = before)

/-- The condition of an entry that a warm reset and an OFF entry latch again (R178, R179). -/
def standing (s : State) (k : Kind) : Prop :=
  (k = .criticalEnergy ∧ (s.chg.energy = .critical ∨ s.chg.energy = .criticalHard)) ∨
  (k = .thermalTrip ∧ ∃ x, (s.sensor x).trip = true) ∨ (k = .budgetShort ∧ s.bud.short = true)

/-- The standing conditions are latched again with the payloads of their owners and the time, `c` the combined charge (R178,
R179; the starting short flag: log entry 40). -/
structure LatchedAgain (s t : State) (c : Option Nat) : Prop where
  pending : ∀ k, k = .criticalEnergy ∨ k = .thermalTrip ∨ k = .budgetShort →
    ((t.entry k).pending = true ↔ standing s k) ∧ (t.entry k).count = 0 ∧
    (standing s k → (t.entry k).latchTime = time32 s.now)
  critical : standing s .criticalEnergy → (t.entry .criticalEnergy).payload = .criticalEnergy s.chg.energy c
  trip : standing s .thermalTrip → (t.entry .thermalTrip).payload = .sensors
    { soc := (s.sensor .soc).trip, charger := (s.sensor .charger).trip, deck := (s.sensor .deck).trip,
      base := (s.sensor .base).trip }
  short : standing s .budgetShort → (t.entry .budgetShort).payload = .empty

/-- The wake that is held after one with a cause arrives in SLEEP_ENTRY: the first one stays (R20). -/
def held (s : State) (cause : WakeCause) : Option WakeCause :=
  match s.pwr.heldWake with
  | none => some cause
  | some first => some first

/-- The sequencer's record when a wake starts RESUME with IO still down (R6, R19). -/
def resumed (s : State) (p : Sequencer) (cause : WakeCause) : Sequencer :=
  { p with rails := p.rails.set .io { p.rails.get .io with enabled := true }, state := .resume, wakeCause := cause,
           refusalDisplay := none, wakeExpired := false, upWait := some (.io, max 1 (min 100 s.store.policy.upTimeout)) }

/-- The states in which a forcing condition starts POWER_DOWN (R22). -/
def forcible (x : PlatformState) : Prop := x = .powerUp ∨ x = .run ∨ x = .sleepEntry ∨ x = .sleep ∨ x = .resume

/-- What a forcing condition makes of the sequencer in those states, and nothing in the others (R22). -/
structure ForcedDown (s t : State) (cause : DownCause) : Prop where
  down : forcible s.pwr.state → (t.pwr.state = .powerDown ∨ t.pwr.state = .off) ∧ t.pwr.downCause = cause ∧
    t.pwr.transition = none ∧ t.pwr.reboot = none ∧ t.pwr.heldWake = none ∧ t.pwr.upWait = none
  rails : forcible s.pwr.state → ∀ r, (s.pwr.rails.get r).enabled = false → (t.pwr.rails.get r).enabled = false
  waits : forcible s.pwr.state → ∀ w, s.pwr.downWait = some w → t.pwr.downWait = some w ∧ t.pwr.state = .powerDown
  first : forcible s.pwr.state → s.pwr.downWait = none → ∀ r before after, downRails .powerDown = before ++ r :: after →
    (∀ x ∈ before, isPassed s x) → (s.pwr.rails.get r).enabled = true → (s.pwr.rails.get r).good = true →
    t.pwr.state = .powerDown ∧ t.pwr.downWait = some (r, 50) ∧
      t.pwr.rails = (passed s.pwr.rails before).set r { s.pwr.rails.get r with enabled := false }
  none : forcible s.pwr.state → s.pwr.downWait = .none → (∀ x, isPassed s x) → t.pwr.state = .off
  other : ¬ forcible s.pwr.state → t.pwr = s.pwr

/-- The posture whose band holds an angle (R35). -/
def band (angle : Nat) : Posture :=
  if angle < 20 then .closed else if angle < 200 then .laptop else if angle < 320 then .tent else .tablet

/-- The angle has not passed the committed posture's exit limits (R36). -/
def holds (posture : Posture) (angle : Nat) : Prop :=
  match posture with
  | .closed => angle < 28
  | .laptop => 12 ≤ angle ∧ angle < 208
  | .tent => 192 ≤ angle ∧ angle < 328
  | .tablet => 312 ≤ angle

/-- A conflict of the hall fields and the angle (R34). -/
def conflicting (p : PostureMonitor) : Prop :=
  p.angleState ≠ .none ∧ ((p.lid = .active ∧ 45 ≤ p.angle) ∨ (p.fold = .active ∧ p.angle < 270))

/-- `c` is the candidate of a posture record (R35, R36, R41, R43). -/
def isCandidate (p : PostureMonitor) (c : Posture) : Prop :=
  (p.lid = .active ∧ c = .closed) ∨ (p.lid ≠ .active ∧ p.fold = .active ∧ c = .tablet) ∨
  (p.lid ≠ .active ∧ p.fold ≠ .active ∧ p.mode = .hallOnly ∧ c = .laptop) ∨
  (p.lid ≠ .active ∧ p.fold ≠ .active ∧ p.mode = .angle ∧
    ((p.angleState = .none ∧ c = p.posture) ∨
     (p.angleState ≠ .none ∧ p.evaluated = true ∧ holds p.posture p.angle ∧ c = p.posture) ∨
     (p.angleState ≠ .none ∧ (p.evaluated = false ∨ ¬ holds p.posture p.angle) ∧ c = band p.angle)))

/-- A posture record after the action on a candidate (R37). -/
def acted (p : PostureMonitor) (c : Posture) : PostureMonitor :=
  if c = p.posture then { p with candidate := none, dwell := 0 }
  else if p.candidate = some c then p
  else { p with candidate := some c, dwell := 250 }

/-- The factory zero_offset and span of the hinge sensor (R192). -/
def hingeFactory (s : State) : Int × Int :=
  ((s.store.factory.read 0x32).toNat + 256 * (s.store.factory.read 0x33).toNat,
   (s.store.factory.read 0x34).toNat + 256 * (s.store.factory.read 0x35).toNat)

/-- A valid angle sample (R32, R33). -/
def goodSample (s : State) (raw : BitVec 12) : Prop := 20 ≤ raw.toNat ∧ raw.toNat ≤ 4075 ∧ (hingeFactory s).2 ≠ 0

/-- The angle of a valid sample (R32). -/
def sampleAngle (s : State) (raw : BitVec 12) : Nat :=
  (max 0 (min 359 ((((raw.toNat : Int) - (hingeFactory s).1) * 360).tdiv (hingeFactory s).2))).toNat

/-- The command is an input of the posture monitor that starts an evaluation, and `p` the record with the input written. -/
def evaluates (c : Instr) (s : State) (p : PostureMonitor) : Prop :=
  (∃ active, c = .hallDebouncedChange .lid active ∧ p = { s.post with lid := if active then .active else .inactive }) ∨
  (∃ active, c = .hallDebouncedChange .fold active ∧ p = { s.post with fold := if active then .active else .inactive }) ∨
  (∃ raw, c = .angleSample raw ∧ goodSample s raw ∧ p = { s.post with angle := sampleAngle s raw, angleState := .valid })

/-- The command commits a posture: the dwell of a candidate ends, or the first evaluation finds it, in ANGLE mode without a
conflict, in HALL_ONLY mode from the halls and with the return test; `p` is the record before the commit (R37, R42, R43). -/
def commits (c : Instr) (s : State) (p : PostureMonitor) (q : Posture) : Prop :=
  (c = .dwellExpiry ∧ s.post.candidate = some q ∧ p = s.post) ∨
  (∃ p', evaluates c s p' ∧ p'.evaluated = false ∧ p'.lid ≠ .unknown ∧ p'.fold ≠ .unknown ∧ p'.mode = .angle ∧
    ¬ conflicting p' ∧ isCandidate p' q ∧ p = { p' with conflict := none, evaluated := true }) ∨
  (∃ p' back, evaluates c s p' ∧ p'.evaluated = false ∧ p'.lid ≠ .unknown ∧ p'.fold ≠ .unknown ∧ p'.mode = .hallOnly ∧
    isCandidate p' q ∧ (back = true ↔ p'.angleState = .valid ∧ ¬ conflicting p') ∧
    p = { p' with evaluated := true, returning := back, returnElapsed := if back then p'.returnElapsed else 0 })

/-- What the scanner's commands leave alone outside the scanner and the event table. -/
def besideKeys (s : State) : Sequencer × PostureMonitor × PerSlot PackSlot × Bus × Charger × Budget × Thermal × Store × Nat :=
  (s.pwr, s.post, s.packs, s.bus, s.chg, s.bud, s.thr, s.store, s.now)

/-- A key record's four bytes (R189). -/
def recordBytes (r : KeyRecord) : List Byte :=
  [r.code, BitVec.ofNat 8 ((match r.action with | .press => 0 | .release => 1 | .resync => 2) +
    (match r.layer with | .base => 0 | .fn => 128)), BitVec.ofNat 8 r.timestamp, BitVec.ofNat 8 (r.timestamp / 256)]

/-- The records that a READ_KEYS count asks for (R62). -/
def keysWanted (count : Byte) : Nat := max 1 (min 8 count.toNat)

/-- OK, or CLAMPED when a value was brought into range. -/
def statusFor (clamped : Prop) [Decidable clamped] : Status := if clamped then .clamped else .ok

/-- Only position `p` of the matrix may differ from its debounced state. -/
def steady (s : State) (raw : BitVec 128) (p : Nat) : Prop :=
  p < 128 ∧ s.kbd.mode = .active ∧ sparseWf freePosition 0 s.kbd.positions = true ∧
    (∀ q, q ≠ p → (s.position q).disposition ≠ .blocked) ∧ ∀ q, q < 128 → q ≠ p → raw.getLsbD q = (s.position q).pressed

/-- The scan takes the press, or the release, of position `p` (R50). -/
def taken (s : State) (raw : BitVec 128) (p : Nat) (press : Bool) : Prop :=
  raw.getLsbD p = press ∧ (s.position p).pressed = !press ∧
    (if press then max 1 (min 8 s.store.policy.pressCount) else max 1 (min 8 s.store.policy.releaseCount)) ≤
      (s.position p).count + 1

/-- A press of `p` closes a rectangle of pressed positions without MODIFIER (R51). -/
def closesGhost (s : State) (raw : BitVec 128) (p : Nat) : Prop :=
  (keyInForce s p).modifier = false ∧ ∃ d n, d < 16 ∧ n < 8 ∧ d ≠ p / 8 ∧ n ≠ p % 8 ∧
    ∀ q, q = p / 8 * 8 + n ∨ q = d * 8 + p % 8 ∨ q = d * 8 + n → raw.getLsbD q = true ∧ (keyInForce s q).modifier = false

/-- Position `p` is pressed with a disposition after a scan, and every other position is as it was, its count at 0. -/
def nowPressed (s u : State) (p : Nat) (d : Disposition) : Prop :=
  u.position p = { pressed := true, count := 0, disposition := d } ∧
    ∀ q, q < 128 → q ≠ p → u.position q = { s.position q with count := 0 }

/-- The scan reported nothing. -/
def nothingReported (s u : State) : Prop :=
  u.kbd.held = s.kbd.held ∧ u.kbd.queue = s.kbd.queue ∧ u.kbd.overflowed = s.kbd.overflowed ∧ ∀ k, u.entry k = s.entry k

/-- The limits that the CHARGE_LIMIT_TOGGLE hotkey applies (R114). -/
def toggledLimits (s : State) : Nat × Nat :=
  if s.chg.stop = 100 ∧ s.chg.start = 95 then
    (max 50 (min 100 s.store.policy.longevityStop),
      max 40 (min (max 50 (min 100 s.store.policy.longevityStop) - 5) s.store.policy.longevityStart))
  else (100, 95)

/-- A hotkey action applied by its owner, with the setting that it gives back (R58). -/
def actionApplied (s u : State) (a : HotkeyAction) (setting settingHigh : Nat) : Prop :=
  match a with
  | .none => False
  | .fanBoost => u.thr.mode = (if s.thr.mode = .performance then .auto else .performance) ∧
      setting = u.thr.mode.index ∧ settingHigh = 0
  | .fanQuiet => u.thr.mode = (if s.thr.mode = .quiet then .auto else .quiet) ∧ setting = u.thr.mode.index ∧ settingHigh = 0
  | .backlightStep => u.kbd.level = (if 3 ≤ s.kbd.level then 0 else s.kbd.level + 1) ∧ setting = u.kbd.level ∧ settingHigh = 0
  | .chargeLimitToggle => (u.chg.stop, u.chg.start) = toggledLimits s ∧ setting = u.chg.stop ∧ settingHigh = u.chg.start

/-- A hotkey press: its action and HOTKEY, nothing in the queue or the held-key table (R58). -/
def hotkeyRan (s u : State) (a : HotkeyAction) : Prop :=
  u.kbd.held = s.kbd.held ∧ u.kbd.queue = s.kbd.queue ∧ ∃ x y, actionApplied s u a x y ∧
    ((s.entry .hotkey).pending = false → u.entry .hotkey = { s.entry .hotkey with
      pending := true, count := 1, payload := .hotkey a x y, latchTime := time32 s.now }) ∧
    ((s.entry .hotkey).pending = true → u.entry .hotkey = { s.entry .hotkey with
      count := min 15 ((s.entry .hotkey).count + 1) })

/-- A reported press of a code and a layer: its place in the held-key table, and its PRESS record unless the queue is full or
has overflowed (R59, R61). -/
def pressReported (s u : State) (p : Nat) (code : Byte) (layer : Layer) : Prop :=
  u.kbd.held = s.kbd.held ++ [⟨p, code, layer⟩] ∧ (∀ k, k ≠ .keyAvailable → u.entry k = s.entry k) ∧
    (s.kbd.overflowed = false → s.kbd.queue.length < 32 →
      u.kbd.queue = s.kbd.queue ++ [⟨code, .press, layer, s.now % 65536⟩] ∧ u.kbd.overflowed = false ∧
      (s.kbd.queue = [] → (u.entry .keyAvailable).pending = true)) ∧
    (s.kbd.overflowed = true ∨ 32 ≤ s.kbd.queue.length → u.kbd.queue = s.kbd.queue ∧ u.kbd.overflowed = true)

/-- Fn is held (R55). -/
def fnDown (s : State) : Prop := ∃ q, (s.position q).disposition = .fn

/-- The accepted press of position `p` by its keymap entry in force (R56 to R59). -/
structure AcceptedAs (s u : State) (p : Nat) : Prop where
  fnKey : (keyInForce s p).fnKey = true → nowPressed s u p .fn ∧ nothingReported s u ∧ besideKeys u = besideKeys s
  unused : (keyInForce s p).fnKey = false → (keyInForce s p).base = 0 →
    nowPressed s u p .ignored ∧ nothingReported s u ∧ besideKeys u = besideKeys s
  hotkey : (keyInForce s p).fnKey = false → (keyInForce s p).base ≠ 0 → (keyInForce s p).hotkey ≠ .none → fnDown s →
    s.kbd.route = .scanner → nowPressed s u p .hotkey ∧ hotkeyRan s u (keyInForce s p).hotkey
  reported : (keyInForce s p).fnKey = false → (keyInForce s p).base ≠ 0 →
    ((keyInForce s p).hotkey = .none ∨ ¬ fnDown s ∨ s.kbd.route = .host) → besideKeys u = besideKeys s ∧
    (s.kbd.held.length < 12 → nowPressed s u p .reported ∧
      (fnDown s → (keyInForce s p).fn ≠ 0 → pressReported s u p (keyInForce s p).fn .fn) ∧
      (¬ fnDown s ∨ (keyInForce s p).fn = 0 → pressReported s u p (keyInForce s p).base .base)) ∧
    (12 ≤ s.kbd.held.length → nowPressed s u p .rollover ∧ u.kbd.held = s.kbd.held ∧ u.kbd.queue = s.kbd.queue ∧
      u.kbd.overflowed = s.kbd.overflowed ∧ (u.entry .keyRollover).pending = true ∧
      ∀ k, k ≠ .keyRollover → u.entry k = s.entry k)

/-- A press of `p` is a wake press whose wake is in the wake set (R68). -/
def wakePressed (s : State) (raw : BitVec 128) (p : Nat) : Prop :=
  (keyInForce s p).wake = true ∧ s.post.posture = .laptop ∧ s.kbd.enabled = true ∧ ¬ closesGhost s raw p ∧
    s.pwr.wakeSet.keyboard = true

/-- A position that is released with no count running. -/
def freeRecord : PosRec := { pressed := false, count := 0, disposition := .free }

/-- The position table lists its positions once, rising, and none that is free. -/
def tableForm (s : State) : Prop := sparseWf freePosition 0 s.kbd.positions = true

/-- The thresholds of the debounce (R50). -/
def threshold (s : State) (pressed : Bool) : Nat :=
  if pressed then max 1 (min 8 s.store.policy.releaseCount) else max 1 (min 8 s.store.policy.pressCount)

/-- An event of a kind stands in the table after a command, unless the command took the platform to OFF. -/
def reports (s t : State) (k : Kind) : Prop := (t.pwr.state = .off → s.pwr.state = .off) → (t.entry k).pending = true

/-- The wake of a pack change, when PACK_CHANGE is in the wake set (R19, R20): RESUME from SLEEP unless the energy status then
forces a power-down, held in SLEEP_ENTRY. -/
def wakesOnPack (s t : State) : Prop :=
  s.pwr.wakeSet.packChange = true →
    (s.pwr.state = .sleepEntry → t.pwr.state = .sleepEntry → t.pwr.heldWake = held s .packChange) ∧
    (s.pwr.state = .sleep → (s.pwr.rails.get .io).good = false →
      (t.pwr.state = .resume ∧ t.pwr.wakeCause = .packChange) ∨ t.chg.energy = .criticalHard)

/-- A slot's record with the valid flags left out: these follow the periods in force (R91). -/
def flagless (p : PackSlot) : PackSlot := { p with items := p.items.map fun _ e => { e with valid := false } }

/-- Every valid flag is the one that the value, its age and the period in force give (R91). -/
def FlagsFollow (s : State) : Prop :=
  ∀ k i, (s.item k i).valid = true ↔ (s.item k i).value.isSome = true ∧ (s.item k i).age ≤ 3 * period s k i

/-- What a command that concerns one slot leaves alone: the other slot's record, the poll schedules' flags left out, the clock
and the stored regions. -/
def besideSlot (s t : State) (k : Slot) : Prop :=
  flagless (t.pack (otherSlot k)) = flagless (s.pack (otherSlot k)) ∧ t.now = s.now ∧ t.store.image = s.store.image ∧
    t.store.policy = s.store.policy ∧ t.notice.floor = s.notice.floor

/-- A slot that shows no value: it is still to be identified (R94). -/
def showsNothing (r : PackSlot) : Prop := r.state = .identifying ∨ (r.state = .commLost ∧ r.previous = some .identifying)

/-- A payload is the pack record's layout (R190). -/
def isPackRecord (r : PackSlot) (p : List Byte) : Prop :=
  p.length = 56 ∧
  field p 0 1 = r.state.index + 16 * (match r.previous with | none => 15 | some q => q.index) ∧
  field p 1 1 = r.rejection.index + 16 * r.failures ∧ field p 2 2 = r.status.toNat ∧ field p 4 2 = r.alarm.toNat ∧
  (r.identity = none → (p.drop 6).take 19 = List.replicate 19 0xFF) ∧
  (∀ d, r.identity = some d → (p.drop 6).take 19 = le16 d.designCapacity ++ le16 d.designVoltage ++
    le8 (min 255 d.cellCount) ++ le16 d.chargeVoltageLimit ++ le16 d.maxDischargeCurrent ++ d.serial ++ le16 d.cycleCount) ∧
  (∀ i e, (showsNothing r ∧ e = .absent) ∨ (¬ showsNothing r ∧ e = r.items.get i) →
    (field p 25 2).testBit (dynIndex i) = e.value.isSome ∧ (field p 27 2).testBit (dynIndex i) = e.valid ∧
    field p (29 + 2 * dynIndex i) 2 = (match e.value with | none => 0xFFFF | some w => w.toNat) ∧
    field p (47 + dynIndex i) 1 = min 255 (e.age / 256))

/-- A record whose parts fit the layout: the failures count to 5 and SERIAL has eight bytes. -/
def fitsRecord (r : PackSlot) : Prop := r.failures ≤ 5 ∧ ∀ d, r.identity = some d → d.serial.length = 8

/-- The fresh flag applies to the slot (R95). -/
def freshReads (r : PackSlot) : Prop := r.state = .active ∨ (r.state = .commLost ∧ r.previous = some .active)

/-- The bytes a read is checked over, up to its data (R76). -/
def readHead (k : Slot) (i : Item) : List Byte :=
  match k with
  | .int => [0x34, BitVec.ofNat 8 (itemCode i), 0x35]
  | .rear => [0x36, BitVec.ofNat 8 (itemCode i), 0x37]

/-- The bytes that a read clocked carry its value with a matching check byte (R76). -/
def goodRead (k : Slot) (i : Item) (bytes : List Byte) : Prop :=
  (i ≠ .ident .serial ∧ ∃ lo hi, bytes = [lo, hi, crc8 (readHead k i ++ [lo, hi])]) ∨
  (i = .ident .serial ∧ ∃ data, data.length = 8 ∧ bytes = [8] ++ data ++ [crc8 (readHead k i ++ [8] ++ data)])

/-- An attempt ends in a failing outcome at a phase (R76, R77). -/
def failsWith (k : Slot) (i : Item) (result : AttemptResult) (phase : BusPhase) (outcome : FaultOutcome) : Prop :=
  (result = .nackAddress ∧ phase = .address ∧ outcome = .nackAddress) ∨
  (result = .nackData ∧ phase = .command ∧ outcome = .nackData) ∨
  (result = .timeout phase ∧ outcome = .timeout) ∨
  (∃ lo hi check, result = .received [lo, hi, check] ∧ i ≠ .ident .serial ∧ check ≠ crc8 (readHead k i ++ [lo, hi]) ∧
    phase = .check ∧ outcome = .checkFail) ∨
  (∃ count rest, result = .received (count :: rest) ∧ i = .ident .serial ∧ count ≠ 8 ∧ phase = .data 0 ∧
    outcome = .checkFail) ∨
  (∃ data check, result = .received ([8] ++ data ++ [check]) ∧ i = .ident .serial ∧ data.length = 8 ∧
    check ≠ crc8 (readHead k i ++ [8] ++ data) ∧ phase = .check ∧ outcome = .checkFail)

/-- How many bus recoveries the attempt's end runs. -/
def recoveriesOf : AttemptResult → Nat
  | .timeout _ => 1
  | _ => 0

/-- A slot's record with one poll entry replaced. -/
def withEntry (r : PackSlot) (i : DynItem) (e : PollEntry) : PackSlot := { r with items := r.items.set i e }

/-- A slot's record after a failed read (R79, R80, R88). -/
def afterFailedRead (k : Slot) (i : Item) (phase : BusPhase) (outcome : FaultOutcome) (now : Nat) (r : PackSlot) : PackSlot :=
  let q : PackSlot := { r with
    fault := some { slot := k, item := some i, phase := phase, outcome := outcome, attempts := 3, time := time32 now },
    faultCount := min 255 (r.faultCount + 1), failures := min 5 (r.failures + 1),
    items := match i with
      | .dyn d => r.items.set d { r.items.get d with lastEnd := now }
      | .ident _ => r.items }
  match r.state with
  | .identifying => { q with state := .commLost, previous := some .identifying, step := 0, draft := .blank, retry := some 10000 }
  | .active => if 4 ≤ r.failures then { q with state := .commLost, previous := some .active } else q
  | .rejected => if 4 ≤ r.failures then { q with state := .commLost, previous := some .rejected } else q
  | .commLost => if r.previous = some .identifying then { q with step := 0, draft := .blank, retry := some 10000 } else q
  | .empty => q

/-- A slot's record after an OK attempt, the value left out (R78, R80). -/
def afterOkAttempt (r : PackSlot) : PackSlot :=
  if r.state = .commLost then
    match r.previous with
    | some .identifying => { r with failures := 0, state := .identifying, previous := none }
    | some .active => { r with failures := 0, state := .active, previous := none }
    | some .rejected => { r with failures := 0, state := .rejected, previous := none }
    | none => { r with failures := 0 }
  else { r with failures := 0 }

/-- The first acceptance test that an identity fails (R87). -/
def rejectedBy (p : Policy) (d : Identity) : RejectionCause :=
  if d.designVoltage < max 5000 (min 20000 p.acceptLow) ∨ max 5000 (min 20000 p.acceptHigh) < d.designVoltage then .designVoltage
  else if d.cellCount < 2 ∨ 4 < d.cellCount then .cellCount
  else if max 3000 (min 4400 p.perCellMax) * d.cellCount < d.chargeVoltageLimit then .chargeVoltageLimit
  else .none

/-- A read on the wires whose outcome counts, of a slot and an item. -/
def onTheWires (s : State) (r : CurrentRead) : Prop := s.bus.current = some r ∧ r.onWires = true ∧ r.discard = false

/-- A time left after one millisecond. -/
def oneMsLess : Option Nat → Option Nat
  | none => none
  | some ms => some (ms - 1)

/-- A time left beside what it is for, after one millisecond. -/
def withOneMsLess {α : Type} : Option (α × Nat) → Option (α × Nat)
  | none => none
  | some (x, ms) => some (x, ms - 1)

/-- The session timer counts: the selected pack is in one of its phases (R109). -/
def sessionCounts (s : State) : Prop := ∃ k, s.chg.selected = some k ∧
  ((s.chg.packs.get k).phase = .precharge ∨ (s.chg.packs.get k).phase = .constantCurrent ∨
    (s.chg.packs.get k).phase = .constantVoltage)

/-- The precharge time counts (R109). -/
def prechargeCounts (s : State) : Prop := ∃ k, s.chg.selected = some k ∧ (s.chg.packs.get k).phase = .precharge

/-- A calibration phase runs and is not suspended (R117, R118). -/
def phaseCounts (s : State) (x : CalPhase) : Prop :=
  s.chg.cal.phase = x ∧ s.chg.cal.suspension = { host := false, adapterLost := false, platform := false, thermal := false }

/-- The state `t` is `s` one millisecond later: every running time counts by 1 ms, and nothing else changes (R4, R7, R10, R13,
R15, R18, R27, R37, R39, R42, R49, R71, R88, R91, R99, R105, R109, R111, R117, R118, R175, R193). The model's choice: that an item
with no value does not age (log entry 44), and the wake timer's seconds, counted by ms (log entry 4). -/
structure OneMsLater (s t : State) : Prop where
  clock : t.now = s.now + 1
  sequencer : t.pwr = { s.pwr with
    transition := withOneMsLess s.pwr.transition, upWait := withOneMsLess s.pwr.upWait,
    downWait := withOneMsLess s.pwr.downWait, refusalDisplay := oneMsLess s.pwr.refusalDisplay,
    reboot := match s.pwr.reboot with | some (.offTime ms) => some (.offTime (ms - 1)) | r => r,
    button := match s.pwr.button with | .held ms => .held (ms + 1) | b => b,
    wakeTimer := t.pwr.wakeTimer, wakeTimerMs := t.pwr.wakeTimerMs, wakeExpired := t.pwr.wakeExpired }
  noSecond : s.pwr.wakeTimer = none ∨ ¬ timerCounts s ∨ s.pwr.wakeTimerMs < 999 →
    t.pwr.wakeTimer = s.pwr.wakeTimer ∧ t.pwr.wakeExpired = s.pwr.wakeExpired ∧
    (s.pwr.wakeTimer = none ∨ ¬ timerCounts s → t.pwr.wakeTimerMs = s.pwr.wakeTimerMs) ∧
    (s.pwr.wakeTimer.isSome = true → timerCounts s → t.pwr.wakeTimerMs = s.pwr.wakeTimerMs + 1)
  second : ∀ n, s.pwr.wakeTimer = some n → timerCounts s → 999 ≤ s.pwr.wakeTimerMs → t.pwr.wakeTimerMs = 0 ∧
    t.pwr.wakeTimer = (if n ≤ 1 then none else some (n - 1)) ∧
    t.pwr.wakeExpired = (if n ≤ 1 then true else s.pwr.wakeExpired)
  posture : t.post = { s.post with
    dwell := s.post.dwell - 1,
    conflict := match s.post.conflict with | none => none | some ms => some (min 2000 (ms + 1)),
    returnElapsed := if s.post.returning then min 10000 (s.post.returnElapsed + 1) else s.post.returnElapsed }
  scanner : t.kbd = { s.kbd with
    idle := oneMsLess s.kbd.idle,
    quiet := if s.kbd.mode = .active ∧ s.kbd.positions = [] then min 250 (s.kbd.quiet + 1) else s.kbd.quiet }
  slots : ∀ k, t.pack k = { s.pack k with retry := oneMsLess (s.pack k).retry, items := (t.pack k).items }
  ages : ∀ k i, t.item k i = { s.item k i with
    age := if (s.item k i).value.isSome then min 65535 ((s.item k i).age + 1) else (s.item k i).age }
  charger : t.chg = { s.chg with
    classWait := oneMsLess s.chg.classWait, switchOver := oneMsLess s.chg.switchOver,
    budgetRetry := oneMsLess s.chg.budgetRetry, sessionMs := t.chg.sessionMs, prechargeMs := t.chg.prechargeMs,
    cal := { s.chg.cal with dischargeMs := t.chg.cal.dischargeMs, restMs := t.chg.cal.restMs } }
  session : (sessionCounts s → t.chg.sessionMs = s.chg.sessionMs + 1) ∧
    (¬ sessionCounts s → t.chg.sessionMs = s.chg.sessionMs) ∧
    (prechargeCounts s → t.chg.prechargeMs = s.chg.prechargeMs + 1) ∧
    (¬ prechargeCounts s → t.chg.prechargeMs = s.chg.prechargeMs)
  calibration : (phaseCounts s .discharge → t.chg.cal.dischargeMs = s.chg.cal.dischargeMs + 1) ∧
    (¬ phaseCounts s .discharge → t.chg.cal.dischargeMs = s.chg.cal.dischargeMs) ∧
    (phaseCounts s .rest → t.chg.cal.restMs = s.chg.cal.restMs - 1) ∧
    (¬ phaseCounts s .rest → t.chg.cal.restMs = s.chg.cal.restMs)
  windows : t.notice = { s.notice with
    critWindow := oneMsLess s.notice.critWindow, tripWindow := oneMsLess s.notice.tripWindow }
  programming : t.link = { s.link with processing := match s.link.processing with
    | some (.writePolicy tag offset data ms) => some (.writePolicy tag offset data (ms - 1))
    | some (.freeze tag ms) => some (.freeze tag (ms - 1))
    | p => p }
  others : (t.pending, t.free, t.bus, t.bud, t.thr, t.store, t.pins) =
    (s.pending, s.free, s.bus, s.bud, s.thr, s.store, s.pins)

/-- The time of a timed event has come: its time left is 0, its time measured has reached the limit, or its moment after the
cold start is past (R4, R7, R10, R13, R15, R18, R25, R27, R37, R39, R42, R49, R71, R88, R90, R91, R95, R105, R109, R111, R117,
R118, R121, R125, R159, R175, R193). -/
def comesDue (s : State) (c : Instr) : Prop :=
  match c with
  | .freshReadAnswer => ∃ tag k, s.link.processing = some (.freshRead tag k true)
  | .policyWriteComplete => ∃ tag offset data, s.link.processing = some (.writePolicy tag offset data 0)
  | .freezeComplete => ∃ tag, s.link.processing = some (.freeze tag 0)
  | .longPress => ∃ ms, s.pwr.button = .held ms ∧ max 2000 (min 10000 s.store.policy.longPress) ≤ ms
  | .upTimeoutExpiry => ∃ r, s.pwr.upWait = some (r, 0)
  | .downWaitExpiry => ∃ r, s.pwr.downWait = some (r, 0)
  | .settleExpiry => ∃ x, s.pwr.transition = some (x, 0)
  | .rebootOffTimeExpiry => s.pwr.reboot = some (.offTime 0)
  | .wakeTimerExpiry => s.pwr.wakeExpired = true ∧ timerCounts s
  | .restoreDecision => 1000 ≤ s.now ∧ s.pwr.restoreTaken = false
  | .refusalDisplayEnd => s.pwr.refusalDisplay = some 0
  | .escalationExpiry w => windowLeft w s = some 0
  | .dwellExpiry => s.post.candidate ≠ none ∧ s.post.dwell = 0
  | .conflictTimerExpiry => s.post.conflict = some 2000
  | .returnTimerExpiry => s.post.mode = .hallOnly ∧ s.post.returning = true ∧ 10000 ≤ s.post.returnElapsed
  | .quietTimeExpiry => s.kbd.mode = .active ∧ s.kbd.positions = [] ∧ 250 ≤ s.kbd.quiet
  | .backlightIdleExpiry => s.kbd.idle = some 0
  | .pollItemDue k i => scheduleRuns (s.pack k) = true ∧ polled s k i = true ∧ inService s.bus k (.dyn i) = false ∧
      (s.item k i).lastEnd + period s k i ≤ s.now
  | .identifyRetryExpiry k => (s.pack k).retry = some 0
  | .itemStale k i => (s.item k i).valid = true ∧ 3 * period s k i < (s.item k i).age
  | .switchOverExpiry => s.chg.switchOver = some 0
  | .sessionTimerExpiry => sessionCounts s ∧ max 1 (min 24 s.store.policy.sessionHours) * 3600000 ≤ s.chg.sessionMs
  | .prechargeTimeout => prechargeCounts s ∧ 1800000 ≤ s.chg.prechargeMs
  | .budgetRetryExpiry => s.chg.budgetRetry = some 0
  | .dischargeTimeout => phaseCounts s .discharge ∧ 28800000 ≤ s.chg.cal.dischargeMs
  | .restExpiry => phaseCounts s .rest ∧ s.chg.cal.restMs = 0
  | .energyFirstJudgement => 1000 ≤ s.now ∧ s.chg.judging = false
  | .budgetEvaluation => 0 < s.now ∧ 250 ∣ s.now ∧ s.bud.evalAt ≠ s.now
  | .startUpHoldEnd => 1000 ≤ s.now ∧ s.thr.holdOver = false
  | _ => False

/-- The charge request I_req (R111). A REQUESTED_CURRENT word of 0x8000 or more counts as unsigned (log entry 56). -/
def iReq (s : State) : Nat :=
  match s.chg.selected with
  | none => 0
  | some k =>
    if s.chg.switchOver.isSome then 0
    else
      let requested := match (s.item k .requestedCurrent).value with | none => 0 | some w => w.toNat
      let cap := if (s.chg.packs.get k).band = .cold then requested * 50 / 100 else requested
      let all := min (min requested cap) (min (min 4032 (s.store.policy.limits.get k)) 4032)
      match (s.chg.packs.get k).phase with
      | .constantCurrent | .constantVoltage => all
      | .precharge => min 128 all
      | _ => 0

/-- An evaluation grants nothing to a session that asks for current (R111). -/
def unfunded (s t : State) : Prop := t.bud.iChg = 0 ∧ 0 < iReq s ∧ sessionCounts s

/-- The charge current set-point for the state's I_chg and I_req (R103). -/
def setPoint (s : State) : Nat :=
  if min s.bud.iChg (iReq s / 64 * 64) < 128 then 0 else min s.bud.iChg (iReq s / 64 * 64)

/-- The charge voltage of a pack (R112). -/
def chargeVolts (s : State) (k : Slot) : Option Nat :=
  match (s.item k .requestedVoltage).value with
  | none => none
  | some w =>
    let cells := match (s.pack k).identity with | none => 0 | some d => d.cellCount
    some (min w.toNat (max 3000 (min 4400 s.store.policy.perCellMax) * cells) -
      (if (s.chg.packs.get k).band = .warm then 100 * cells else 0))

/-- One of the conditions of R110 holds for a pack; BUDGET is as R111 set it. -/
def holdCondition (s : State) (k : Slot) : Prop :=
  s.chg.adapter.present = false ∨ (s.pack k).status.getLsbD 1 = true ∨ (s.chg.packs.get k).band = .coldHold ∨
  (s.chg.packs.get k).band = .hotHold ∨ hardCrossing s ∨
  (∃ i, i ∈ [DynItem.voltage, .current, .status, .temperature, .rsoc, .requestedCurrent, .requestedVoltage] ∧
    (s.item k i).valid = false) ∨
  ((s.item k .voltage).valid = true ∧ (s.item k .voltage).value = some 0) ∨
  (∃ v, chargeVolts s k = some v ∧ v < 4000) ∨ s.chg.hold.budget = true

/-- The phases in which a session runs (R106). -/
def runsUnheld (p : ChargePhase) : Prop := p = .qualify ∨ p = .precharge ∨ p = .constantCurrent ∨ p = .constantVoltage

/-- A slot's REMAINING_CAPACITY and FULL_CAPACITY as the combined charge counts them (R121). -/
def capacities (s : State) (k : Slot) : Nat × Nat :=
  match (s.pack k).state, (s.item k .remainingCapacity).valid, (s.item k .remainingCapacity).value,
      (s.item k .fullCapacity).valid, (s.item k .fullCapacity).value with
  | .active, true, some r, true, some f => if f.toNat = 0 then (0, 0) else (r.toNat, f.toNat)
  | _, _, _, _, _ => (0, 0)

/-- The combined charge, absent when no slot contributes (R121). -/
def combined (s : State) : Option Nat :=
  if (capacities s .int).2 + (capacities s .rear).2 = 0 then none
  else some (min 100 (((capacities s .int).1 + (capacities s .rear).1) * 100 /
    ((capacities s .int).2 + (capacities s .rear).2)))

/-- The energy status that a judgement finds (R121). -/
def energyOf (s : State) : EnergyLevel :=
  if s.chg.adapter.present then .normal
  else if s.chg.discharge = none then .criticalHard
  else match combined s with
    | none => s.chg.energy
    | some c =>
      if c ≤ min s.store.policy.criticalThreshold (min 50 s.store.policy.lowThreshold) then .critical
      else if c ≤ min 50 s.store.policy.lowThreshold then .low else .normal

/-- The low crossing is armed, or the combined charge arms it now (R122). -/
def armedNow (s : State) : Bool :=
  s.chg.lowArmed || (match combined s with
    | none => false
    | some c => decide (min 50 s.store.policy.lowThreshold + 3 ≤ c))

/-- A level of the CRITICAL_ENERGY condition (R175). -/
def isCrit (e : EnergyLevel) : Prop := e = .critical ∨ e = .criticalHard

/-- The class in W (R98). -/
def watts (s : State) : Nat :=
  if s.chg.adapter.present = false then 0
  else match s.chg.adapter.cls with
    | .none => 0
    | .pending | .unknown45 | .w45 => 45
    | .w65 => 65
    | .w90 => 90
    | .w135 => 135

/-- A set as one byte, the first member in bit 0. -/
def setByte (a b c d e : Bool) : List Byte :=
  [BitVec.ofNat 8 ((if a then 1 else 0) + (if b then 2 else 0) + (if c then 4 else 0) + (if d then 8 else 0) +
    (if e then 16 else 0))]

/-- A temperature field: two bytes, 0x8000 when absent (R164). -/
def tempField : Option Int → List Byte
  | none => [0x00, 0x80]
  | some t => le16 (BitVec.ofInt 16 t).toNat

/-- What the charge controller's requests leave alone, the response slot apart. -/
def besideCharge (s : State) : Sequencer × PostureMonitor × Keyboard × Budget × Thermal × Store × Nat :=
  (s.pwr, s.post, s.kbd, s.bud, s.thr, s.store, s.now)

/-- The charge limits written, with the done RSOC of both packs cleared (R113). -/
def withLimits (s : State) (stop start : Nat) : State :=
  { s with chg := { s.chg with
      stop := stop, start := start,
      packs := { int := { s.chg.packs.int with doneRsoc := none }, rear := { s.chg.packs.rear with doneRsoc := none } } } }

/-- A stop threshold as R113 brings it into range, and a start threshold under it. -/
def stopInRange (n : Nat) : Nat := max 50 (min 100 n)
def startInRange (stop n : Nat) : Nat := max 40 (min (stop - 5) n)

/-- A calibration phase is running (R115). -/
def calibrating (c : CalRecord) : Prop := c.phase = .discharge ∨ c.phase = .rest ∨ c.phase = .charge

/-- The empty suspension set. -/
def unsuspended : Suspension := { host := false, adapterLost := false, platform := false, thermal := false }

/-- The calibration record written: the bypass is ON exactly in an unsuspended DISCHARGE, and a change of the record is latched
as CALIBRATION_STATUS (R98, R115, R117). -/
def withCal (s : State) (r : CalRecord) : State :=
  let t : State := { s with chg := { s.chg with
    cal := r, adapter := { s.chg.adapter with bypass := decide (r.phase = .discharge ∧ r.suspension = unsuspended) } } }
  if r = s.chg.cal then t else latch .calibrationStatus (.calibration r) t

/-- FULL_CAPACITY of the calibrating pack as it stands (R116, R118, R120). -/
def fullCapacity (s : State) (k : Slot) : Option Nat :=
  match (s.item k .fullCapacity).value with
  | none => none
  | some w => some w.toNat

/-- The record of a cycle that ends (R118, R120). -/
def endedCal (s : State) (outcome : CalOutcome) (cause : Option CalCause) : CalRecord :=
  { s.chg.cal with
    phase := .ended, outcome := outcome, cause := cause, endPhase := some s.chg.cal.phase,
    capacityAfter := match s.chg.cal.slot with | none => none | some k => fullCapacity s k }

/-- A pack in a charge session, held or not (R106, R108). -/
def sessionRuns (p : ChargePhase) : Prop :=
  p = .qualify ∨ p = .precharge ∨ p = .constantCurrent ∨ p = .constantVoltage ∨ p = .hold

/-- The RSOC of a slot is valid and reads `r`. -/
def validRsoc (s : State) (k : Slot) (r : Nat) : Prop :=
  (s.item k .rsoc).valid = true ∧ ∃ w, (s.item k .rsoc).value = some w ∧ w.toNat = r

/-- The class band `i` of the factory region holds a code; its two ends are in it (R99, R192, log entry 22). -/
def inClassBand (s : State) (i code : Nat) : Prop :=
  fromLe (s.store.factory.readBytes (0x36 + 4 * i) 2) ≤ code ∧ code ≤ fromLe (s.store.factory.readBytes (0x38 + 4 * i) 2)

/-- The class that an ID code gives: the first band that holds it, else UNKNOWN_45 (R99). -/
def isClass (s : State) (code : Nat) (c : AdapterClass) : Prop :=
  (inClassBand s 0 code ∧ c = .w45) ∨ (¬ inClassBand s 0 code ∧ inClassBand s 1 code ∧ c = .w65) ∨
  (¬ inClassBand s 0 code ∧ ¬ inClassBand s 1 code ∧ inClassBand s 2 code ∧ c = .w90) ∨
  (¬ inClassBand s 0 code ∧ ¬ inClassBand s 1 code ∧ ¬ inClassBand s 2 code ∧ inClassBand s 3 code ∧ c = .w135) ∨
  ((∀ i, i < 4 → ¬ inClassBand s i code) ∧ c = .unknown45)

/-- The adapter record replaced, with the time left to the class read. -/
def withAdapter (s : State) (a : Adapter) (wait : Option Nat) : State :=
  { s with chg := { s.chg with adapter := a, classWait := wait } }

/-- The platform state hears an attach or a removal as a wake, or not at all (R19, R20). -/
def noWake (s : State) : Prop := s.pwr.state = .sleep ∨ s.pwr.state = .sleepEntry → s.pwr.wakeSet.adapterChange = false

/-- A timer of a session sends the selected pack to FAULT with a cause (R109). -/
def endsInFault (c : Instr) (p : ChargePhase) (cause : ChargeFault) : Prop :=
  (c = .sessionTimerExpiry ∧ cause = .timer ∧ (p = .precharge ∨ p = .constantCurrent ∨ p = .constantVoltage)) ∨
  (c = .prechargeTimeout ∧ cause = .prechargeTimeout ∧ p = .precharge)

/-! The source record (R101, R102). -/

/-- The first pass takes a slot: ACTIVE, RSOC valid and above 5, no TERMINATE_DISCHARGE. -/
def inFirstPass (s : State) (k : Slot) : Prop :=
  (s.pack k).state = .active ∧ (∃ r, validRsoc s k r ∧ 5 < r) ∧ (s.pack k).status.getLsbD 3 = false

/-- The second pass admits a slot: ACTIVE, no TERMINATE_DISCHARGE. -/
def inSecondPass (s : State) (k : Slot) : Prop := (s.pack k).state = .active ∧ (s.pack k).status.getLsbD 3 = false

/-- An RSOC as the second pass counts it: its last value, 0 when absent. -/
def countedRsoc (s : State) (k : Slot) : Nat :=
  match (s.item k .rsoc).value with
  | none => 0
  | some w => w.toNat

/-- The slot stands first in the discharge order. -/
def leadsDischarge (s : State) (k : Slot) : Prop := k = if s.store.policy.dischargeRearFirst then .rear else .int

/-- What the two passes choose: the first pass by the discharge order alone, the second by the RSOC and then by the order. -/
def isOrderedChoice (s : State) : Option Slot → Prop
  | some k =>
    (inFirstPass s k ∧ (inFirstPass s (otherSlot k) → leadsDischarge s k)) ∨
    ((∀ j, ¬ inFirstPass s j) ∧ inSecondPass s k ∧
      (inSecondPass s (otherSlot k) → countedRsoc s (otherSlot k) < countedRsoc s k ∨
        (countedRsoc s (otherSlot k) = countedRsoc s k ∧ leadsDischarge s k)))
  | none => ∀ k, ¬ inSecondPass s k

/-- The calibrating pack carries the platform after a removal with the bypass ON (R119, log entry 37). -/
def carries (s : State) (k : Slot) : Prop :=
  s.chg.calCarries = true ∧ s.chg.adapter.present = false ∧ s.chg.cal.phase = .discharge ∧ s.chg.cal.slot = some k ∧
    inSecondPass s k

/-- The discharge pack of the state. -/
def isDischargePack (s : State) (d : Option Slot) : Prop :=
  (∀ k, carries s k → d = some k) ∧ ((∀ k, ¬ carries s k) → isOrderedChoice s d)

/-- The supply of the state, beside its discharge pack. -/
def isSupply (s : State) (d : Option Slot) (x : Supply) : Prop :=
  (s.chg.adapter.bypass = true → x = match s.chg.cal.slot with | none => .none | some k => .pack k) ∧
  (s.chg.adapter.bypass = false → s.chg.adapter.present = true → x = .adapter) ∧
  (s.chg.adapter.bypass = false → s.chg.adapter.present = false → x = match d with | none => .none | some k => .pack k)

/-- The bypass is ON exactly in an unsuspended DISCHARGE (R98, R117). -/
def bypassFollows (s : State) : Prop :=
  s.chg.adapter.bypass = true ↔ s.chg.cal.phase = .discharge ∧ s.chg.cal.suspension = unsuspended

/-! The selected pack (R104, R105). -/

/-- The selected pack is not the calibrating pack in DISCHARGE or REST. -/
def apartFromCycle (s : State) : Prop :=
  ∀ k, s.chg.selected = some k → s.chg.cal.slot = some k → s.chg.cal.phase ≠ .discharge ∧ s.chg.cal.phase ≠ .rest

/-- A pack needs charge. -/
def wantsCharge (s : State) (k : Slot) : Prop :=
  (s.chg.selected = some k ∧ sessionRuns (s.chg.packs.get k).phase) ∨
  ((s.chg.packs.get k).phase = .idle ∧ ∃ r, validRsoc s k r ∧ r < s.chg.start) ∨
  ((s.chg.packs.get k).phase = .done ∧ ∃ r, validRsoc s k r ∧ r < s.chg.start ∧
    ∀ d, (s.chg.packs.get k).doneRsoc = some d → r + 3 ≤ d)

/-- A pack is eligible. -/
def canBeSelected (s : State) (k : Slot) : Prop :=
  (s.pack k).state = .active ∧ (s.chg.packs.get k).phase ≠ .fault ∧
  (s.chg.cal.slot = some k → s.chg.cal.phase ≠ .discharge ∧ s.chg.cal.phase ≠ .rest) ∧ wantsCharge s k ∧
  (s.chg.selected = some k ∨
    ((∀ i, i ∈ [DynItem.voltage, .status, .temperature, .rsoc] → (s.item k i).valid = true) ∧
      (s.pack k).status.getLsbD 1 = false ∧ s.chg.adapter.present = true))

/-- The slot stands first in the charge order. -/
def leadsCharge (s : State) (k : Slot) : Prop := k = if s.store.policy.chargeIntFirst then .int else .rear

/-- The pack to select: none while the bypass is ON, the calibrating pack in its CHARGE, else the first eligible one. -/
def isChosenPack (s : State) (x : Option Slot) : Prop :=
  (s.chg.adapter.bypass = true → x = none) ∧
  (s.chg.adapter.bypass = false → s.chg.cal.phase = .charge →
    ∀ k, x = some k ↔ s.chg.cal.slot = some k ∧ (s.pack k).state = .active ∧ (s.chg.packs.get k).phase ≠ .fault) ∧
  (s.chg.adapter.bypass = false → s.chg.cal.phase ≠ .charge →
    (x = none → ∀ k, ¬ canBeSelected s k) ∧
    (∀ k, x = some k → canBeSelected s k ∧ (canBeSelected s (otherSlot k) → leadsCharge s k)))

/-- The selection is settled: the bypass follows the cycle, the selected pack is the one that R104 chooses, and no item stands not
valid whose value is young enough for the period in force (R91, R98, R104, R117). -/
structure SelectionSettled (s : State) : Prop where
  bypass : bypassFollows s
  chosen : isChosenPack s s.chg.selected
  flags : ∀ k i, (s.item k i).value.isSome = true → (s.item k i).age ≤ 3 * period s k i → (s.item k i).valid = true

/-- An item waits in the queue. -/
def waits (s : State) (k : Slot) (i : DynItem) : Prop := ∃ e ∈ s.bus.queue, e.slot = k ∧ e.item = .dyn i

/-- An item that does not wait does not wait after its read has ended either (R90). A request's two items alone come due again, and
only where the read's end makes the charge controller select the pack anew, which clears the marks of the session's reads
(R105, R107); from a settled selection that the step leaves as it stands they do not. -/
def notDueAgain (s t : State) (k : Slot) (i : DynItem) : Prop :=
  ¬ waits s k i →
    (waits t k i → (i = .requestedCurrent ∨ i = .requestedVoltage) ∧ t.chg.selected = some k ∧
      t.chg.freshCurrent = false ∧ t.chg.freshVoltage = false) ∧
    (SelectionSettled s → t.chg.selected = s.chg.selected → ¬ waits t k i)

/-- What a change of the selected pack to `x` leaves: the pack that loses the selection IDLE, or as it stood in DONE and FAULT,
with its requests no longer polled; the new one in QUALIFY with its session records cleared, or in a switch-over (R90, R105,
log entry 54). -/
structure SelectionMoved (s t : State) (x : Option Slot) : Prop where
  selected : t.chg.selected = x
  beside : besideCharge t = besideCharge s ∧ t.link = s.link ∧ t.packs = s.packs ∧ t.chg.switchAt = s.chg.switchAt
  current : t.chg.iSet = 0
  loser : ∀ k, s.chg.selected = some k →
    ((s.chg.packs.get k).phase = .done ∨ (s.chg.packs.get k).phase = .fault → t.chg.packs.get k = s.chg.packs.get k) ∧
    ((s.chg.packs.get k).phase ≠ .done → (s.chg.packs.get k).phase ≠ .fault → (t.chg.packs.get k).phase = .idle) ∧
    ∀ e ∈ t.bus.queue, e.slot = k → e.item ≠ .dyn .requestedCurrent ∧ e.item ≠ .dyn .requestedVoltage
  unselected : x = none → s.chg.selected.isSome = true → t.chg.switchOver = none ∧ t.chg.budgetRetry = none ∧
    t.chg.hold = { noAdapter := false, terminate := false, temp := false, data := false, budget := false }
  winner : ∀ k, x = some k → t.chg.freshCurrent = false ∧ t.chg.freshVoltage = false ∧
    inService t.bus k (.dyn .requestedCurrent) = true ∧ inService t.bus k (.dyn .requestedVoltage) = true ∧
    (s.chg.switchAt = k → (t.chg.packs.get k).phase = .qualify ∧ t.chg.switchOver = none ∧ t.chg.sessionMs = 0 ∧
      t.chg.prechargeMs = 0 ∧ t.chg.termination = 0 ∧ t.chg.budgetRetry = none ∧
      t.chg.hold = { noAdapter := false, terminate := false, temp := false, data := false, budget := false }) ∧
    (s.chg.switchAt ≠ k → (t.chg.packs.get k).phase = .idle ∧ t.chg.switchOver = some 50)
  reported : ∀ k, (t.chg.packs.get k).phase ≠ (s.chg.packs.get k).phase → (t.entry .chargeState).pending = true

/-- One of R108's conditions for DONE holds for the selected pack. -/
def chargeEnds (s : State) (k : Slot) : Prop :=
  (s.pack k).status.getLsbD 5 = true ∨
  (∃ r, validRsoc s k r ∧ (if s.chg.cal.phase = .charge ∧ s.chg.cal.slot = some k then 100 else s.chg.stop) ≤ r) ∨
  ((s.chg.packs.get k).phase = .constantVoltage ∧ (2 ≤ s.chg.termination ∨ iReq s < 128))

/-! What a pack's value does in the charge controller (R107, R108, R112, R117, R119, R120). -/

/-- A pack's phase moved within its session, with CHARGE_STATE (R106). -/
def phaseMoved (s : State) (k : Slot) (p : ChargePhase) : State :=
  latch .chargeState (.chargeState k p .none)
    { s with chg := { s.chg with packs := s.chg.packs.set k { s.chg.packs.get k with phase := p } } }

/-- The band after a TEMPERATURE read, with the hysteresis of the two holds (R112). -/
def bandAfter (was : Band) (t : Int) : Band :=
  if was = .coldHold ∧ t < 20 then .coldHold
  else if was = .hotHold ∧ 530 < t then .hotHold
  else if t < 0 then .coldHold else if t < 100 then .cold else if t ≤ 450 then .normal else if t ≤ 550 then .warm
  else .hotHold

/-- The charge controller after a good read or alarm of an item, once its value `w` is stored; `old` are the status flags
before it. -/
def withValue (k : Slot) (i : DynItem) (old : BitVec 8) (w : BitVec 16) (s : State) : State :=
  match i with
  | .voltage =>
    if (s.chg.packs.get k).phase = .precharge ∧ 3000 * cells s k ≤ w.toNat then phaseMoved s k .constantCurrent
    else if (s.chg.packs.get k).phase = .constantCurrent ∧ s.chg.vSet ≤ w.toNat + 50 then
      phaseMoved { s with chg := { s.chg with termination := 0 } } k .constantVoltage
    else s
  | .current =>
    if (s.chg.packs.get k).phase ≠ .constantVoltage then s
    else if w.toInt < (max 50 (min 500 s.store.policy.terminationCurrent) : Nat) then
      { s with chg := { s.chg with termination := min 2 (s.chg.termination + 1) } }
    else { s with chg := { s.chg with termination := 0 } }
  | .status =>
    if (s.chg.cal.slot = some k ∧ s.chg.cal.phase = .discharge ∧ w.getLsbD 1 = true ∧ old.getLsbD 1 = false) ∨
        (s.chg.cal.slot = some k ∧ s.chg.cal.phase = .charge ∧ w.getLsbD 3 = true ∧ old.getLsbD 3 = false) then
      withCal s (endedCal s .aborted (some .packFault))
    else s
  | .temperature =>
    if (s.pack k).state ≠ .active then s
    else
      let t : State := { s with chg := { s.chg with
        packs := s.chg.packs.set k { s.chg.packs.get k with band := bandAfter (s.chg.packs.get k).band w.toInt } } }
      if s.chg.cal.slot = some k ∧ s.chg.cal.phase = .discharge ∧ (500 < w.toInt ∨ w.toInt ≤ 480) then
        withCal t { s.chg.cal with suspension := { s.chg.cal.suspension with thermal := decide (500 < w.toInt) } }
      else t
  | .requestedCurrent => if s.chg.selected = some k then { s with chg := { s.chg with freshCurrent := true } } else s
  | .requestedVoltage => if s.chg.selected = some k then { s with chg := { s.chg with freshVoltage := true } } else s
  | .rsoc | .remainingCapacity | .fullCapacity => s

/-- The end of an unsuspended DISCHARGE of a slot is reached (R117). -/
def dischargeOver (s : State) (k : Slot) : Prop :=
  s.chg.cal.slot = some k ∧ s.chg.cal.phase = .discharge ∧ s.chg.cal.suspension = unsuspended ∧
  ((s.pack k).status.getLsbD 6 = true ∨ (s.pack k).status.getLsbD 3 = true ∨ validRsoc s k 0 ∨
    ((s.item k .voltage).valid = true ∧ ∃ w, (s.item k .voltage).value = some w ∧ w.toNat ≤ 3000 * cells s k))

/-- The end of DISCHARGE tested: REST begins with the policy rest time, and a rest time of 0 is passed at once (R117, R118). -/
def dischargeTested (k : Slot) (s t : State) : Prop :=
  (¬ dischargeOver s k → t = s) ∧
  (dischargeOver s k → t = withCal s { s.chg.cal with
    phase := if s.store.policy.restMinutes = 0 then .charge else .rest,
    restMs := min 240 s.store.policy.restMinutes * 60000 })

/-- The bus after the end of a read; the fresh read's third read is the end of the fresh read (R95). -/
def freed (s : State) (r : CurrentRead) : State :=
  match r.fresh, s.bus.fresh with
  | true, some ⟨_, []⟩ => { s with
      bus := { s.bus with current := none, fresh := none },
      link := { s.link with processing := match s.link.processing with
        | some (.freshRead tag k _) => some (.freshRead tag k true)
        | p => p } }
  | _, _ => { s with bus := { s.bus with current := none } }

/-- A dynamic value stored at the end of its read (R78, R80, R91). -/
def withRead (s : State) (r : CurrentRead) (i : DynItem) (w : BitVec 16) : State :=
  { freed s r with packs := s.packs.set r.slot (withEntry
      { afterOkAttempt (s.pack r.slot) with status := if i = .status then w.setWidth 8 else (s.pack r.slot).status } i
      { value := some w, age := 0, valid := true, lastEnd := s.now }) }

/-- An OK read returns the slot from COMM_LOST to ACTIVE or REJECTED (R80). -/
def returnsFromLost (r : PackSlot) : Bool :=
  decide (r.state = .commLost ∧ (r.previous = some .active ∨ r.previous = some .rejected))

/-- A session's start: QUALIFY with its timers and causes cleared and the switch at the pack (R105). The budget retry stops with
them (log entry 54). -/
def sessionStarted (s : State) (k : Slot) : State :=
  latch .chargeState (.chargeState k .qualify .none) { s with chg := { s.chg with
    switchAt := k, switchOver := none, sessionMs := 0, prechargeMs := 0, termination := 0, budgetRetry := none,
    chargeVoltage := none,
    hold := { noAdapter := false, terminate := false, temp := false, data := false, budget := false },
    packs := s.chg.packs.set k { s.chg.packs.get k with phase := .qualify } } }

/-- The supply A (R126, R128). -/
def supply (s : State) : Nat :=
  (if s.chg.adapter.bypass then 0 else watts s) * 1000 * max 500 (min 1000 s.store.policy.derate) / 1000

/-- The running states of the budget unit and the thermal controller (R126, R154). -/
def running (s : State) : Prop := s.pwr.state = .run ∨ s.pwr.state = .powerUp ∨ s.pwr.state = .resume

/-- The selected pack's voltage as the budget counts it (R126). -/
def countedVoltage (s : State) : Nat :=
  match s.chg.selected with
  | none => 0
  | some k =>
    if s.chg.switchOver.isSome ∨ (s.item k .voltage).valid = false then 0
    else match (s.item k .voltage).value with | none => 0 | some v => v.toNat

/-- The power D of a source pack that is counted (R129). -/
def packBoost (s : State) (k : Slot) : Nat :=
  let factor := match (s.item k .temperature).valid, (s.item k .temperature).value with
    | true, some t => if t.toInt < 0 then 500 else if t.toInt < 100 then 750 else 1000
    | _, _ => 500
  match (s.item k .voltage).valid, (s.item k .voltage).value, (s.pack k).identity with
  | true, some v, some d => min 65535 (v.toNat * d.maxDischargeCurrent / 1000) * factor / 1000
  | _, _, _ => 0

/-- A source pack is counted without the adapter, with the bypass, or with boost enabled and RSOC at the boost floor (R129). -/
def counted (s : State) (k : Slot) : Prop :=
  s.chg.adapter.present = false ∨ s.chg.adapter.bypass = true ∨
  (s.bud.boost = true ∧ ∃ r, validRsoc s k r ∧ min 100 s.store.policy.boostFloor ≤ r)

/-- The pack that stage 2 measures (R129). -/
def source (s : State) : Option Slot := match s.chg.supply with | .pack k => some k | _ => s.chg.discharge

/-- Overload count and backoff after an evaluation that finds A and a measured input (R135). -/
def overloadAfter (a measured count backoff : Nat) : Nat × Nat :=
  if a = 0 then (0, 0)
  else if a < measured then (min 3 (count + 1), if 2 ≤ count then min 100000 (backoff + 2000) else backoff)
  else if a * 95 ≤ measured * 100 then (0, backoff)
  else (0, backoff - 500)

/-- An allocation after floor and ceiling, and whether the floor was granted without cover (R137). -/
def withinBounds (p : Policy) (alloc : Int) : Nat × Bool :=
  if alloc < processorFloor p then (processorFloor p, true) else (min (processorMax p) (alloc.toNat / 250 * 250), false)

/-- The allocation of a record when the charge takes a power (R132, R133, R134). -/
def allocated (b : Budget) (pEff : Nat) : Int :=
  min ((b.a : Int) + b.d - b.b - pEff) ((b.h : Int) - b.b - (pEff * b.heatShare / 1000 : Nat))

/-- The supply room and the heat room of a charge beside a processor power (R130, R133, R134). -/
def supplySide (b : Budget) (reserved : Nat) : Nat := b.a - b.b - reserved
def heatSide (b : Budget) (reserved : Nat) : Option Nat :=
  if b.heatShare = 0 then none else some ((b.h - b.b - reserved) * 1000 / b.heatShare)

/-- The record `b` is what an evaluation in state `s` writes, stage by stage (R128 to R139); `reserved` is the processor's power
that the charge leaves alone. -/
structure EvaluatedAs (s : State) (b : Budget) (reserved : Nat) : Prop where
  a : b.a = supply s
  dNone : source s = none → b.d = 0
  dPack : ∀ k, source s = some k → (counted s k → b.d = packBoost s k) ∧ (¬ counted s k → b.d = 0)
  h : b.h = s.thr.h
  base : (running s → b.b = min 30000 s.store.policy.bRun) ∧ (¬ running s → b.b = min 30000 s.store.policy.bIdle)
  share : b.heatShare = min 500 s.store.policy.heatShare
  q : b.q = min 65535 (countedVoltage s * iReq s / 1000)
  overload : (b.overload, b.backoff) =
    overloadAfter b.a (s.chg.adapter.vin * s.chg.adapter.iin / 1000) s.bud.overload s.bud.backoff
  reservedFirst : (running s ∧ s.bud.mode = .performanceFirst →
      reserved = (withinBounds s.store.policy (allocated b 0)).1) ∧
    (¬ (running s ∧ s.bud.mode = .performanceFirst) → reserved = processorFloor s.store.policy)
  noCharge : 0 < b.backoff → b.pChg = 0
  charge : b.backoff = 0 → b.pChg =
    match heatSide b reserved with
    | none => min b.q (supplySide b reserved)
    | some heat => min (min b.q (supplySide b reserved)) heat
  current : b.iChg =
    if b.pChg = 0 ∨ countedVoltage s = 0 then 0
    else if ∃ k, s.chg.selected = some k ∧ (s.chg.packs.get k).phase = .precharge then
      if countedVoltage s * 128 / 1000 ≤ b.pChg then 128 else 0
    else if b.pChg * 1000 / countedVoltage s / 64 * 64 < 128 then 0
    else min 4032 (b.pChg * 1000 / countedVoltage s / 64 * 64)
  effective : b.pEff = countedVoltage s * b.iChg / 1000
  procFirst : running s → s.bud.mode = .performanceFirst →
    b.pProc = max (processorFloor s.store.policy) ((withinBounds s.store.policy (allocated b 0)).1 - b.backoff) ∧
    b.short = (withinBounds s.store.policy (allocated b 0)).2
  chargeFirst : running s → s.bud.mode = .chargeFirst →
    b.pProc = max (processorFloor s.store.policy) ((withinBounds s.store.policy (allocated b b.pEff)).1 - b.backoff) ∧
    b.short = (withinBounds s.store.policy (allocated b b.pEff)).2
  idle : ¬ running s → b.pProc = processorFloor s.store.policy ∧
    b.short = (withinBounds s.store.policy (allocated b b.pEff)).2
  limiting : b.limiting =
    if b.q = 0 then .none else if 0 < b.backoff then .overload else if 0 < b.pChg ∧ b.iChg = 0 then .stepMin
    else if b.pChg = b.q then .request else if b.pChg = supplySide b reserved then .supply else .heat
  reported : b.r = if b.pProc < s.bud.r ∨ s.bud.r + 500 ≤ b.pProc then b.pProc else s.bud.r
  kept : b.mode = s.bud.mode ∧ b.boost = s.bud.boost

/-- The record's own law while its short flag is clear (R137). -/
def coveredBudget (b : Budget) : Prop :=
  b.short = false → b.b + b.pProc + b.pEff ≤ b.a + b.d ∧ b.b + b.pProc + b.pEff * b.heatShare / 1000 ≤ b.h

/-- A sensor in fault (R143). -/
def faulty (r : SensorRec) : Prop := r.state = .openFault ∨ r.state = .shortFault

/-- TRIP holds, or both fans are STALLED (R150, step 1). -/
def heatAtFloor (s : State) : Prop := (∃ k, (s.sensor k).trip = true) ∨ (s.thr.fans.a.stalled = true ∧ s.thr.fans.b.stalled = true)

/-- H_max_eff (R150, step 2). -/
def heatTop (s : State) : Nat :=
  let h := if s.thr.mode = .quiet then hMaxOf s.store.policy * 800 / 1000 else hMaxOf s.store.policy
  max (hMinOf s.store.policy) (if s.thr.fans.a.stalled ∨ s.thr.fans.b.stalled then h / 2 else h)

/-- A sensor's margin m under its limit (R150, step 3). -/
def heatMargin (s : State) (k : Sensor) (m : Nat) : Prop :=
  ((faulty (s.sensor k) ∨ (s.sensor k).temp = none) ∧ m = 0) ∨
  (¬ faulty (s.sensor k) ∧ ∃ t, (s.sensor k).temp = some t ∧
    (m : Int) = max 0 (min (spanOf s.store.policy) (limitOf s.store.policy s.post.posture k - t)))

/-- The heat limit, its terms and the limiting sensor are those of R150. -/
structure HeatFollows (s : State) : Prop where
  floor : heatAtFloor s → ∀ k, (s.sensor k).hs = hMinOf s.store.policy
  top : ¬ heatAtFloor s → s.thr.hMaxEff = heatTop s
  term : ¬ heatAtFloor s → ∀ k m, heatMargin s k m →
    (s.sensor k).hs = hMinOf s.store.policy + (heatTop s - hMinOf s.store.policy) * m / (spanOf s.store.policy).toNat
  least : s.thr.h = min (min (s.sensor .soc).hs (s.sensor .charger).hs) (min (s.sensor .deck).hs (s.sensor .base).hs)
  limiting : s.thr.limiting =
    if (s.sensor .soc).hs = s.thr.h then .soc else if (s.sensor .charger).hs = s.thr.h then .charger
    else if (s.sensor .deck).hs = s.thr.h then .deck else .base

/-- The sensors that govern a fan (section 7.1). -/
def ofFan (f : Fan) (k : Sensor) : Prop :=
  match f with
  | .a => k = .soc
  | .b => k = .charger ∨ k = .deck ∨ k = .base

/-- The floor condition of a fan (R155). -/
def floorHolds (s : State) (f : Fan) : Prop := ∃ k, ofFan f k ∧ ((s.sensor k).warn = true ∨ faulty (s.sensor k))

/-- The temperature that a sensor gives to its fan's curve: in fault the greater of its last valid one and its WARN threshold,
which stands alone where it has had none (R145, R152). -/
def gives (s : State) (k : Sensor) (x : Int) : Prop :=
  (¬ faulty (s.sensor k) ∧ (s.sensor k).temp = some x) ∨
  (faulty (s.sensor k) ∧ (∃ t, (s.sensor k).temp = some t ∧ x = max t (warnOf s.store.policy s.post.posture k))) ∨
  (faulty (s.sensor k) ∧ (s.sensor k).temp = none ∧ x = warnOf s.store.policy s.post.posture k)

/-- A fan's governing temperature, the highest that its sensors give (R152). -/
def governs (s : State) (f : Fan) (x : Int) : Prop :=
  (∃ k, ofFan f k ∧ gives s k x) ∧ ∀ k y, ofFan f k → gives s k y → y ≤ x

/-- The points of a fan's curve in force: the policy's, or those of the default curve where it has none or they do not ascend
strictly; duties above 100 are taken as 100 (R152). -/
def pointsOf (p : Policy) (f : Fan) : List (Int × Nat) :=
  let own := (p.curves.get f).points.take (p.curves.get f).count
  let default := match f with
    | .a => [(500, 0), (600, 30), (750, 50), (850, 75), (950, 100)]
    | .b => [(400, 0), (450, 25), (600, 50), (800, 80), (900, 100)]
  (if own ≠ [] ∧ own.Pairwise (fun a b => a.1 < b.1) then own else default).map fun q => (q.1, min 100 q.2)

/-- The curve gives the duty `d` at a temperature (R152). -/
structure CurveGives (points : List (Int × Nat)) (t : Int) (d : Nat) : Prop where
  below : ∀ a, points[0]? = some a → t < a.1 → d = a.2
  above : ∀ z, points.getLast? = some z → z.1 ≤ t → d = z.2
  between : ∀ i a b, points[i]? = some a → points[i + 1]? = some b → a.1 ≤ t → t < b.1 →
    (d : Int) = a.2 + (((b.2 : Int) - a.2) * (t - a.1)).tdiv (b.1 - a.1)

/-- A fan's curve target after a fan control step that finds the sensors of `t`: f(T) when it was absent or is no higher,
f(T + 3.0 °C) when that is lower, else as it stood (R153). -/
structure CurveFollows (s t : State) (f : Fan) : Prop where
  sets : ∀ x d e, governs t f x → CurveGives (pointsOf t.store.policy f) x d →
    CurveGives (pointsOf t.store.policy f) (x + 30) e →
    ((s.thr.fans.get f).curve = none → (t.thr.fans.get f).curve = some d) ∧
    (∀ c, (s.thr.fans.get f).curve = some c →
      (c ≤ d → (t.thr.fans.get f).curve = some d) ∧ (d < c → e < c → (t.thr.fans.get f).curve = some e) ∧
      (d < c → c ≤ e → (t.thr.fans.get f).curve = some c))
  keeps : (∀ x, ¬ governs t f x) → (t.thr.fans.get f).curve = (s.thr.fans.get f).curve

/-- A fan's safe floor (R155). -/
def safeFloor (s : State) (f : Fan) : Nat := max 20 (min 100 (s.store.policy.safeFloor.get f))

/-- A MANUAL duty as it is taken (R157). -/
def takenDuty (n : Nat) : Nat := if 100 < n then 100 else if 1 ≤ n ∧ n ≤ 19 then 20 else n

/-- The duty that applies for a MANUAL duty (R157). -/
def applies (s : State) (f : Fan) (duty x : Nat) : Prop :=
  (floorHolds s f → x = max (takenDuty duty) (safeFloor s f)) ∧ (¬ floorHolds s f → x = takenDuty duty)

/-- Point `i` of the factory thermistor table (R144, R192). -/
def tableCode (s : State) (i : Nat) : Nat := fromLe (s.store.factory.readBytes (0x10 + 2 * i) 2)

/-- The table's codes fall strictly from point to point (R145). -/
def usableTable (s : State) : Prop := ∀ i, i < 16 → tableCode s (i + 1) < tableCode s i

/-- The fault state that a conversion shows (R145). -/
def faultOf (s : State) (code : Nat) (x : SensorState) : Prop :=
  ((¬ usableTable s ∨ 4050 < code) ∧ x = .openFault) ∨ (usableTable s ∧ code < 45 ∧ x = .shortFault)

/-- The temperature of a valid code in 0.1 °C (R144). -/
def tempAt (s : State) (code : Nat) (t : Int) : Prop :=
  (tableCode s 0 < code ∧ t = -200) ∨
  (∃ i, i < 16 ∧ code ≤ tableCode s i ∧ tableCode s (i + 1) < code ∧
    t = -200 + 100 * (i : Int) + (((tableCode s i - code) * 100 / (tableCode s i - tableCode s (i + 1)) : Nat) : Int)) ∨
  (code ≤ tableCode s 16 ∧ t = 1400)

/-- A crossing after a judgement against a threshold (R147). -/
def crossed (was now : Bool) (t threshold : Int) : Prop :=
  (threshold ≤ t → now = true) ∧ (t ≤ threshold - 50 → now = false) ∧ (threshold - 50 < t → t < threshold → now = was)

/-- A sensor's record `r` after a conversion of `code`, before the heat limit's term (R144, R145, R147). -/
structure ConvertedTo (s : State) (k : Sensor) (code : Nat) (r : SensorRec) : Prop where
  wrote : r.code = code
  bad : ∀ x, faultOf s code x → r.state = x ∧ r.validRun = 0 ∧ r.temp = (s.sensor k).temp ∧ r.warn = true ∧
    r.trip = (s.sensor k).trip ∧ r.hard = (s.sensor k).hard
  converts : ∀ t, usableTable s → 45 ≤ code → code ≤ 4050 → tempAt s code t → r.temp = some t
  good : usableTable s → 45 ≤ code → code ≤ 4050 →
    (¬ faulty (s.sensor k) → r.state = .valid ∧ r.validRun = (s.sensor k).validRun) ∧
    (faulty (s.sensor k) → 3 ≤ (s.sensor k).validRun → r.state = .valid ∧ r.validRun = 0) ∧
    (faulty (s.sensor k) → (s.sensor k).validRun < 3 → r.state = (s.sensor k).state ∧
      r.validRun = (s.sensor k).validRun + 1 ∧ r.warn = (s.sensor k).warn ∧ r.trip = (s.sensor k).trip ∧
      r.hard = (s.sensor k).hard)
  warn : ∀ t, usableTable s → 45 ≤ code → code ≤ 4050 → r.state = .valid → r.temp = some t →
    crossed (s.sensor k).warn r.warn t (warnOf s.store.policy s.post.posture k)
  tripHard : ∀ t, usableTable s → 45 ≤ code → code ≤ 4050 → r.state = .valid → r.temp = some t →
    (tripOf s.store.policy k = none → r.trip = false) ∧ (hardOf s.store.policy k = none → r.hard = false) ∧
    (∀ x, tripOf s.store.policy k = some x → crossed (s.sensor k).trip r.trip t x) ∧
    (∀ x, hardOf s.store.policy k = some x → crossed (s.sensor k).hard r.hard t x)

/-- The four codes of a round, sensor by sensor. -/
def roundCode (soc charger deck base : BitVec 12) : Sensor → Nat
  | .soc => soc.toNat
  | .charger => charger.toNat
  | .deck => deck.toNat
  | .base => base.toNat

/-- One ramp step of a commanded duty toward a target (R156). -/
def rampStep (duty target : Nat) : Nat :=
  if duty < target then
    if target - duty ≤ 5 then target else max 20 (duty + 5)
  else if duty - target ≤ 5 then target
  else if duty < 25 then 0 else duty - 5

/-- A fan's target by R154's steps without the overrides: mode, safe floor, demand (R154, R155, R161). -/
def wantedDuty (s : State) (f : Fan) (x : Nat) : Prop :=
  ∃ mode, (running s → mode = match s.thr.mode with
      | .auto => (s.thr.fans.get f).curve.getD 100
      | .quiet => (s.thr.fans.get f).curve.getD 100 * 70 / 100
      | .performance => min 100 ((s.thr.fans.get f).curve.getD 100 + 15)
      | .manual => (s.thr.fans.get f).manual) ∧
    (¬ running s → floorHolds s f → mode = (s.thr.fans.get f).curve.getD 100) ∧
    (¬ running s → ¬ floorHolds s f → mode = 0) ∧
    (floorHolds s f → x = max (max mode (safeFloor s f)) 20) ∧
    (¬ floorHolds s f → x = if 1 ≤ mode ∧ mode ≤ 19 then 20 else mode)

/-- A fan's record at the end of a tach window with `rpm` measured (R159, R160). -/
structure WindowJudged (r r' : FanRec) (rpm : Nat) : Prop where
  speed : r'.rpm = rpm
  counted : r.stalled = false → r.windowOk = true → rpm < 300 →
    (2 ≤ r.stallCount → r'.stalled = true ∧ r'.stallCount = 0 ∧ r'.recoveryCount = 0) ∧
    (r.stallCount < 2 → r'.stalled = false ∧ r'.stallCount = r.stallCount + 1)
  other : r.stalled = false → (r.windowOk = false ∨ 300 ≤ rpm) → r'.stalled = false ∧ r'.stallCount = 0
  recovers : r.stalled = true → 300 ≤ rpm →
    (1 ≤ r.recoveryCount → r'.stalled = false ∧ r'.stallCount = 0 ∧ r'.recoveryCount = 0) ∧
    (r.recoveryCount = 0 → r'.stalled = true ∧ r'.recoveryCount = 1)
  still : r.stalled = true → rpm < 300 → r'.stalled = true ∧ r'.recoveryCount = 0

/-- The charge current set-point is 0, or it is within every bound of R103 for a selected pack that may be charged. -/
def setPointBounded (s : State) : Prop :=
  s.chg.iSet = 0 ∨ ∃ k w, s.chg.selected = some k ∧ (s.pack k).state = .active ∧ (s.pack k).status.getLsbD 1 = false ∧
    (s.chg.packs.get k).band ≠ .coldHold ∧ (s.chg.packs.get k).band ≠ .hotHold ∧ s.bud.backoff = 0 ∧
    (s.item k .requestedCurrent).value = some w ∧ s.chg.iSet ≤ w.toNat ∧ s.chg.iSet ≤ 4032 ∧
    s.chg.iSet ≤ min 4032 (s.store.policy.limits.get k) ∧ 128 ≤ s.chg.iSet

/-- The laws that bound what the part hands out: the charge current, the reported processor limit, and a budget record that
claims to be covered; that the charger follows the session: its set-point, its voltage, no session beside a hold cause; that
the bypass follows the calibration cycle and the selection stands settled, a DISCHARGE stands suspended without the adapter and
outside RUN, and the pack in DISCHARGE or REST is not selected; and that a tach window counts toward a stall only with a duty of
20 or more (R91, R98, R103, R104, R110, R117, R119, R137, R139, R160). -/
structure PowerLaws (s : State) : Prop where
  current : setPointBounded s
  follows : s.chg.iSet = setPoint s
  voltage : ∀ v, s.chg.chargeVoltage = some v → 4000 ≤ v → s.chg.vSet = v / 16 * 16
  selection : SelectionSettled s
  apart : apartFromCycle s
  suspended : s.chg.cal.phase = .discharge →
    (s.chg.cal.suspension.adapterLost = true ↔ s.chg.adapter.present = false) ∧
    (s.chg.cal.suspension.platform = true ↔ s.pwr.state ≠ .run)
  unheld : ∀ k, s.chg.selected = some k → runsUnheld (s.chg.packs.get k).phase → ¬ holdCondition s k
  withheld : 0 < s.bud.backoff → s.bud.iChg = 0
  windows : ∀ f, (s.thr.fans.get f).windowOk = true → 20 ≤ (s.thr.fans.get f).commanded
  limit : processorFloor s.store.policy ≤ s.bud.r ∧ s.bud.r ≤ processorMax s.store.policy
  covered : coveredBudget s.bud

end Sys2Proof.Claims

section Statements
open Sys2Proof Sys2Proof.Machine Sys2Proof.Claims

/-! ### The machine -/

/-- One step takes the command at the front of the queue and runs it on the state with the queue's rest; with an empty queue
it is the first timed event that is due, or else one millisecond, by which every running time counts. An event is due when
its time is over: settle, up and down wait, off time, wake timer, dwell, conflict, return, windows, quiet and idle times, poll
and retry times, ages, charge and calibration times, evaluations. The model's choice: the queue, the part's own time, the
order of events due at once, that an item with no value does not age, the ms toward the wake timer's next second (log entries 35,
1, 44 and 4). -/
def Obligations.StepTakesFrontCommand : Prop :=
  (∀ (c : Instr) (rest : List Instr) (s : State), s.pending = c :: rest → step s = exec c { s with pending := rest }) ∧
  (∀ s : State, s.pending = [] →
    (dueEvents s = [] → step s = .next (passMs s)) ∧
    (∀ c rest, dueEvents s = c :: rest → step s = exec c s)) ∧
  (∀ s : State, OneMsLater s (passMs s)) ∧
  (∀ (c : Instr) (s : State), c ∈ dueEvents s ↔ comesDue s c)

/-- Every command answers a next state; it leaves the queue and the FACTORY region alone, and all but a cold reset leave
the running time alone. The model's choice: that a command takes no time, that the queue is the sender's alone, what an event that
does not fit the state does (log entries 1, 35 and 23). -/
def Obligations.EveryCommandCompletes : Prop :=
  ∀ (c : Instr) (s : State), ∃ t, exec c s = .next t ∧ t.pending = s.pending ∧ t.store.factory = s.store.factory ∧
    ((∀ cut, c ≠ .coldReset cut) → t.now = s.now)

/-- A cold reset leaves every block at its Reset column, whatever stood before: sequencer, posture record, scanner, both
slots, pack bus, charge controller, budget record, thermal controller, event table and response slot, each field by field. A
marker write in progress is cut, a policy write in progress tears its block, and both blocks are judged: in a VALID one each
policy field of R192's tables holds its stored bytes brought into range, in an INVALID one its built-in value. The model's
choice: H_max_eff, torn bytes, an enumeration outside its set, a curve of no points, a wake-set byte of 64 or more, the marker
flag, F and Pmax that are no multiples of 250, bounds that name another field (log entries 8, 15, 16, 18, 29, 41 and 52), and the
start of the model's own fields: the time of the last evaluation, the recovery count, the wake timer's part of a second, the draft
identity, the mark of the pack that carries the platform, the session's own charge voltage, the polling pace (log entries 1, 3, 4,
7, 37, 38 and 45). -/
def Obligations.ColdResetLeavesResetValues : Prop :=
  ∀ (cut : Bool) (s : State), ∃ t, exec (.coldReset cut) s = .next t ∧
    t.now = 0 ∧
    t.pwr = {
      state := .off, transition := none, reboot := none, failureCount := 0, faultRecord := none, refusal := .none,
      wakeCause := .none, downCause := .none, rails := t.pwr.rails, upWait := none, downWait := none,
      wakeSet := t.store.policy.wakeDefault, wakeTimer := none, wakeTimerMs := 0, wakeExpired := false, heldWake := none,
      button := .unseen, restoreTaken := false, refusalDisplay := none } ∧
    (∀ r, t.pwr.rails.get r = { enabled := false, good := (s.pwr.rails.get r).good, outcome := .none }) ∧
    t.post = {
      posture := .laptop, mode := .angle, lid := .unknown, fold := .unknown, angle := 0, angleState := .none,
      candidate := none, dwell := 0, conflict := none, returnElapsed := 0, returning := false, evaluated := false } ∧
    t.kbd = {
      mode := .stopped, positions := [], held := [], queue := [], overflowed := false, suppressed := true, overrides := [],
      enabled := t.store.policy.keyboardDefault, route := t.store.policy.routeDefault, caps := false, num := false,
      mute := false, level := min 3 t.store.policy.backlightDefault, dimmed := false, idle := none, quiet := 0 } ∧
    (∀ k, t.pack k = .cleared) ∧
    t.bus = { fast := { int := false, rear := false }, queue := [], fresh := none, current := none, recoveries := 0 } ∧
    t.chg = {
      adapter := { present := false, cls := .none, vin := 0, iin := 0, bypass := false }, classWait := none,
      supply := .none, discharge := none, packs := { int := .cleared, rear := .cleared }, selected := none,
      switchOver := none,
      hold := { noAdapter := false, terminate := false, temp := false, data := false, budget := false },
      sessionMs := 0, prechargeMs := 0, termination := 0, budgetRetry := none, freshCurrent := false,
      freshVoltage := false, chargeVoltage := none, iSet := 0, vSet := 4000, switchAt := .int,
      stop := stopInRange t.store.policy.stopDefault,
      start := startInRange (stopInRange t.store.policy.stopDefault) t.store.policy.startDefault,
      cal := {
        phase := .none, slot := none, suspension := unsuspended, dischargeMs := 0, restMs := 0, capacityBefore := none,
        outcome := .none, cause := none, endPhase := none, capacityAfter := none },
      calCarries := false, energy := .normal, lowArmed := true, judging := false } ∧
    t.bud = {
      a := 0, d := 0, h := 0, b := 0, heatShare := 0, q := 0, pChg := 0, iChg := 0, pEff := 0,
      pProc := processorFloor t.store.policy, r := processorFloor t.store.policy, mode := t.store.policy.modeDefault,
      boost := t.store.policy.boostDefault, short := true, overload := 0, backoff := 0, limiting := .none, evalAt := 0 } ∧
    (∀ k, t.sensor k = { state := .none, code := 0, temp := none, validRun := 0, warn := false, trip := false, hard := false,
                         hs := hMinOf t.store.policy }) ∧
    (∀ f, t.thr.fans.get f = { curve := none, target := 100, commanded := 100, manual := 0, rpm := 0, stalled := false,
                               stallCount := 0, recoveryCount := 0, windowOk := true }) ∧
    t.thr.h = hMinOf t.store.policy ∧ t.thr.hMaxEff = hMaxOf t.store.policy ∧ t.thr.limiting = .soc ∧
    t.thr.mode = t.store.policy.fanModeDefault ∧ t.thr.holdOver = false ∧
    t.notice = { table := freshTable, floor := 0, critWindow := none, tripWindow := none } ∧
    t.link = { slot := { rkind := 0x00, tag := 0x00, status := .noData, payload := [] }, processing := none } ∧
    t.store.frozen = s.store.frozen ∧ t.store.marker = (s.store.marker && !cut) ∧
    ((∀ tag offset data ms, s.link.processing ≠ some (.writePolicy tag offset data ms)) → t.store.image = s.store.image) ∧
    (∀ tag offset data ms b, s.store.image.wf = true → s.link.processing = some (.writePolicy tag offset data ms) →
      writeBlock offset data.length = some b → blockValid t.store.image b = false ∧
      ∀ a, (if b = .prot then 0x080 ≤ a else a < 0x080 ∨ 0x400 ≤ a) → t.store.image.read a = s.store.image.read a) ∧
    t.store.protectedValid = blockValid t.store.image .prot ∧ t.store.generalValid = blockValid t.store.image .general ∧
    t.store.policy = loadPolicy t.store.image t.store.protectedValid t.store.generalValid ∧
    TakenFrom (fun place _ => (place < 0x080 ∧ t.store.protectedValid = true) ∨ (0x080 ≤ place ∧ t.store.generalValid = true))
      (spelledIn t.store.image) Policy.builtIn t.store.policy

/-- After every step the pins follow the state: ALERT, the lock lamps, the backlight and the patterns of both LEDs. -/
def Obligations.PinsFollowEveryStep : Prop :=
  ∀ s t : State, PinsFollow s → step s = .next t → PinsFollow t

/-! ### Link controller -/

/-- A write with no data byte and a write that is not acknowledged change nothing; while a request is in processing every
write to the part is refused at its address and changes nothing. A frame refused by length is answered BADLEN and latches
LINK_ERROR, one refused by its KIND is answered BADKIND; each answer echoes KIND with bit 7 set and TAG, 0 when it did not
arrive. The model's choice: a refused write as a command (log entry 32). -/
def Obligations.RefusedWritesAreAnswered : Prop :=
  (∀ s : State, exec .emptyWrite s = .next s ∧ exec .addressNak s = .next s) ∧
  (∀ (c : Instr) (s : State), carriedByWrite c → s.link.processing.isSome = true → exec c s = .next s) ∧
  (∀ (kind : Byte) (rest : List Byte) (s : State), s.link.processing = none →
    ((rest.length < 2 ∨ 56 < (rest.getD 1 0).toNat ∨ rest.length ≠ 2 + (rest.getD 1 0).toNat) →
      exec (.frameError (kind :: rest)) s =
        .next (refreshPins (latch .linkError .empty (answered s (kind ||| 0x80) (rest.getD 0 0) .badLen [])))) ∧
    (rest.length = 2 + (rest.getD 1 0).toNat → (rest.getD 1 0).toNat ≤ 56 → payloadRange kind.toNat = none →
      exec (.frameError (kind :: rest)) s = .next (refreshPins (answered s (kind ||| 0x80) (rest.getD 0 0) .badKind []))) ∧
    (∀ lo hi, rest.length = 2 + (rest.getD 1 0).toNat → (rest.getD 1 0).toNat ≤ 56 → payloadRange kind.toNat = some (lo, hi) →
      ((rest.getD 1 0).toNat < lo ∨ hi < (rest.getD 1 0).toNat) →
      exec (.frameError (kind :: rest)) s =
        .next (refreshPins (latch .linkError .empty (answered s (kind ||| 0x80) (rest.getD 0 0) .badLen [])))))

/-- The part reads back from every well-formed request frame exactly the request, with every operand. The model's choice:
the operation byte of CALIBRATION (log entry 10). -/
def Obligations.RequestFramesReadBack : Prop :=
  ∀ (c : Instr) (bytes : List Byte), c.wellFormed = true → frameOf c = some bytes → commandOfWrite bytes = c

/-- GET_IDENTITY answers the 24 bytes and changes nothing but the slot; an INVALID block's values were built in at the cold
start, and no step but a cold reset changes a validity, so that the one reported is that of the last cold start. -/
def Obligations.GetIdentityReports : Prop :=
  (∀ (tag : Byte) (s : State), s.link.processing = none →
    exec (.getIdentity tag) s = .next (answered s 0x81 tag .ok
      ([0x6A, 0x0B, 0x40, 0x06, 0x01] ++ (List.range 16).map s.store.factory.read ++
        [if s.store.frozen then 1 else 0, if s.store.protectedValid then 0 else 1, if s.store.generalValid then 0 else 1]))) ∧
  (∀ (cut : Bool) (s t : State), exec (.coldReset cut) s = .next t →
    (t.store.protectedValid = false → t.store.policy = withProtected t.store.policy Policy.builtIn) ∧
    (t.store.generalValid = false → t.store.policy = withProtected Policy.builtIn t.store.policy)) ∧
  (∀ s t : State, step s = .next t → (∀ cut rest, s.pending ≠ .coldReset cut :: rest) →
    t.store.protectedValid = s.store.protectedValid ∧ t.store.generalValid = s.store.generalValid)

/-- RESET_LINK with another byte than 0xA5 changes nothing but the slot; with 0xA5 it makes the warm reset of every block
and answers OK: the settings at the policy defaults, the backlight level among them, H with the fan mode of the policy, every
sensor and fan record else kept, a resync of the key queue, after the releases of a suppression that begins, and the standing
conditions latched again with their payloads. The model's choice: the order of the scanner's steps, the starting short flag (log entries 34 and 40). -/
def Obligations.ResetLinkMakesWarmReset : Prop :=
  ∀ (tag confirmation : Byte) (s : State), s.link.processing = none →
    (confirmation ≠ 0xA5 → exec (.resetLink tag confirmation) s = .next (refreshPins (answered s 0x82 tag .badValue []))) ∧
    (confirmation = 0xA5 → ∃ t, exec (.resetLink tag confirmation) s = .next t ∧
      t.link = { slot := { rkind := 0x82, tag := tag, status := .ok, payload := [] }, processing := none } ∧
      t.pwr = { s.pwr with wakeSet := s.store.policy.wakeDefault } ∧
      t.bud = { s.bud with mode := s.store.policy.modeDefault, boost := s.store.policy.boostDefault } ∧
      t.thr.mode = s.store.policy.fanModeDefault ∧ t.thr.holdOver = s.thr.holdOver ∧ HeatFollows t ∧
      (∀ f, t.thr.fans.get f = { s.thr.fans.get f with manual := 0 }) ∧
      (∀ k, { t.sensor k with hs := 0 } = { s.sensor k with hs := 0 }) ∧
      t.kbd.level = min 3 s.store.policy.backlightDefault ∧ t.kbd.mode = s.kbd.mode ∧ t.kbd.idle = s.kbd.idle ∧
      t.kbd.dimmed = s.kbd.dimmed ∧ t.kbd.overrides = [] ∧ t.kbd.enabled = s.store.policy.keyboardDefault ∧
      t.kbd.route = s.store.policy.routeDefault ∧
      t.kbd.caps = false ∧ t.kbd.num = false ∧ t.kbd.mute = false ∧
      (s.kbd.held.length ≤ 31 →
        (s.kbd.suppressed = true ∨ (s.pwr.state = .run ∧ s.post.posture = .laptop ∧ s.store.policy.keyboardDefault = true)) →
        t.kbd.held = s.kbd.held ∧ t.kbd.overflowed = false ∧ t.kbd.queue = ⟨0, .resync, .base, s.now % 65536⟩ ::
          s.kbd.held.map fun h => ⟨h.code, .press, h.layer, s.now % 65536⟩) ∧
      (s.kbd.held.length ≤ 31 → s.kbd.suppressed = false →
        (s.pwr.state ≠ .run ∨ s.post.posture ≠ .laptop ∨ s.store.policy.keyboardDefault = false) →
        t.kbd.suppressed = true ∧ t.kbd.held = [] ∧ t.kbd.overflowed = false ∧
        t.kbd.queue = (s.kbd.held.map fun h => ⟨h.code, .release, h.layer, s.now % 65536⟩) ++
          [⟨0, .resync, .base, s.now % 65536⟩]) ∧
      t.notice.floor = 0 ∧ t.notice.critWindow = s.notice.critWindow ∧ t.notice.tripWindow = s.notice.tripWindow ∧
      (∀ k, (t.entry k).level = (freshTable.get k).level ∧ (t.entry k).mask = false ∧
        ((t.entry k).pending = true ↔ standing s k ∨ k = .keyAvailable)) ∧ LatchedAgain s t (combined s) ∧
      t.post = s.post ∧ t.packs = s.packs ∧ t.bus = s.bus ∧ t.chg = s.chg ∧ t.store = s.store ∧ t.now = s.now)

/-! ### Notice unit -/

/-- FETCH_NOTICE answers NODATA when no entry is pending and unmasked; else it returns the most urgent one, the first in
source order among equals, and only that entry changes: no longer pending, count 0. -/
def Obligations.FetchNoticeReturnsTheMostUrgent : Prop :=
  ∀ (tag : Byte) (s : State), s.link.processing = none →
    ((∀ k, ¬ ((s.entry k).pending = true ∧ (s.entry k).mask = false)) →
      exec (.fetchNotice tag) s = .next (refreshPins (answered s 0x83 tag .noData []))) ∧
    (∀ k, (s.entry k).pending = true ∧ (s.entry k).mask = false →
      (∀ j, j ≠ k → (s.entry j).pending = true ∧ (s.entry j).mask = false →
        (s.entry j).level < (s.entry k).level ∨ ((s.entry j).level = (s.entry k).level ∧ k.number < j.number)) →
      exec (.fetchNotice tag) s = .next (refreshPins (answered
        (s.mapEntry k fun e => { e with pending := false, count := 0 }) 0x83 tag .ok
        (le8 k.number ++ le8 (s.entry k).count ++ le32 (s.entry k).latchTime ++
          le8 ((allKinds.filter fun j => (s.entry j).pending && !(s.entry j).mask).length - 1) ++
          entryPayloadBytes k (s.entry k).payload))))

/-- SET_EVENT_CONTROL writes the level, brought into 1..7, and the mask of the kind named and of no other; the two fixed
kinds are refused any change, and a kind or mask flag outside its set is BADVALUE. -/
def Obligations.SetEventControlWritesOneKind : Prop :=
  ∀ (tag kind level mask : Byte) (s : State), s.link.processing = none →
    ((kind = 0 ∨ 25 < kind.toNat ∨ 1 < mask.toNat) →
      exec (.setEventControl tag kind level mask) s = .next (refreshPins (answered s 0x85 tag .badValue []))) ∧
    (∀ k : Kind, kind.toNat = k.number → k = .criticalEnergy ∨ k = .thermalTrip → mask.toNat ≤ 1 →
      (level = 7 ∧ mask = 0 →
        exec (.setEventControl tag kind level mask) s = .next (refreshPins (answered s 0x85 tag .ok [kind, 7, 0]))) ∧
      (¬ (level = 7 ∧ mask = 0) →
        exec (.setEventControl tag kind level mask) s = .next (refreshPins (answered s 0x85 tag .denied [])))) ∧
    (∀ k : Kind, kind.toNat = k.number → k ≠ .criticalEnergy → k ≠ .thermalTrip → mask.toNat ≤ 1 →
      exec (.setEventControl tag kind level mask) s = .next (refreshPins (answered
        (s.mapEntry k fun e => { e with level := max 1 (min 7 level.toNat), mask := decide (mask = 1) })
        0x85 tag (if level = 0 ∨ 7 < level.toNat then .clamped else .ok)
        [kind, BitVec.ofNat 8 (max 1 (min 7 level.toNat)), mask])))

/-- SET_ATTENTION_FLOOR takes a value above 6 as 6, echoes the floor, and ALERT is judged against it at once; a cold or a
warm reset returns the floor to 0 and OFF entry keeps it. -/
def Obligations.SetAttentionFloor : Prop :=
  (∀ (tag floor : Byte) (s : State), s.link.processing = none →
    (floor.toNat ≤ 6 → exec (.setAttentionFloor tag floor) s =
      .next (refreshPins (answered { s with notice := { s.notice with floor := floor.toNat } } 0x86 tag .ok [floor]))) ∧
    (6 < floor.toNat → exec (.setAttentionFloor tag floor) s =
      .next (refreshPins (answered { s with notice := { s.notice with floor := 6 } } 0x86 tag .clamped [6]))) ∧
    (∀ t, exec (.setAttentionFloor tag floor) s = .next t →
      (t.pins.alert = true ↔ t.pwr.state = .run ∧
        ∃ k, (t.entry k).pending = true ∧ (t.entry k).mask = false ∧ t.notice.floor < (t.entry k).level))) ∧
  (∀ (cut : Bool) (s t : State), exec (.coldReset cut) s = .next t → t.notice.floor = 0) ∧
  (∀ (tag : Byte) (s t : State), s.link.processing = none → exec (.resetLink tag 0xA5) s = .next t → t.notice.floor = 0) ∧
  (∀ s : State, (offEntry s).notice.floor = s.notice.floor)

/-- A latch by class: an OCCURRENCE entry counts to 15 and keeps its first payload and time, but for sensor sets, slot
sets and PACK_ALARM's flags, which become the union of both; a STATE entry takes the new payload and time. The end of a condition clears the pending flag alone. No other entry changes. -/
def Obligations.LatchAndEndChangeOneEntry : Prop :=
  ∀ (k : Kind) (p : Payload) (s : State),
    (k.occurrence = true → (s.entry k).pending = false →
      (latch k p s).entry k =
        { s.entry k with pending := true, count := 1, payload := p, latchTime := time32 s.now }) ∧
    (k.occurrence = true → (s.entry k).pending = true →
      ∃ q, joined (s.entry k).payload p q ∧
        (latch k p s).entry k = { s.entry k with count := min 15 ((s.entry k).count + 1), payload := q }) ∧
    (k.occurrence = false →
      (latch k p s).entry k = { s.entry k with pending := true, count := 0, payload := p, latchTime := time32 s.now }) ∧
    (endCondition k s).entry k = { s.entry k with pending := false } ∧
    (∀ j, j ≠ k → (latch k p s).entry j = s.entry j ∧ (endCondition k s).entry j = s.entry j)

/-- Every step keeps the levels within 1..7 and the two fixed kinds at level 7 and unmasked. -/
def Obligations.EveryStepKeepsControlsLegal : Prop :=
  ∀ s t : State, ControlsLegal s → step s = .next t → ControlsLegal t

/-! ### Configuration store -/

/-- READ_CONFIG changes nothing but the slot: it returns the stored bytes up to the length, 56 and the region's end, and
refuses other regions, a length of 0 and an offset beyond the region. -/
def Obligations.ReadConfigReturnsStoredBytes : Prop :=
  ∀ (tag region length : Byte) (offset : BitVec 16) (s : State), s.link.processing = none →
    (3 < region.toNat → exec (.readConfig tag region offset length) s = .next (answered s 0xE0 tag .badValue [])) ∧
    (∀ size, (region, size) ∈ [((0 : Byte), 256), (1, 128), (2, 896), (3, 1)] →
      (length = 0 ∨ size ≤ offset.toNat →
        exec (.readConfig tag region offset length) s = .next (answered s 0xE0 tag .noData [])) ∧
      (length ≠ 0 → offset.toNat < size →
        ∃ p, exec (.readConfig tag region offset length) s =
            .next (answered s 0xE0 tag (if p.length = length.toNat then .ok else .clamped) p) ∧
          p.length = min (min length.toNat 56) (size - offset.toNat) ∧
          ∀ i, i < p.length → p.getD i 0 =
            (if region = 0 then s.store.factory.read (offset.toNat + i)
             else if region = 1 then s.store.image.read (offset.toNat + i)
             else if region = 2 then s.store.image.read (0x080 + offset.toNat + i)
             else if s.store.marker then 0x01 else 0x00)))

/-- WRITE_POLICY is refused beyond the image, across the two blocks, into a frozen PROTECTED block and with an enumerated
field of R192's tables outside its set, a keymap entry's hotkey action among them; otherwise it enters processing for 5 ms for each
16 bytes. It stores nothing yet. The model's choice: a wake-set default is outside its set from 64 on and BUTTON's bit is not
tested, a keymap attribute byte is tested by its hotkey action alone, with bits 3 and 7 ignored (log entries 18 and 21). -/
def Obligations.WritePolicyIsTestedThenProcessed : Prop :=
  ∀ (tag : Byte) (offset : BitVec 16) (data : List Byte) (s : State), s.link.processing = none →
    1 ≤ data.length → data.length ≤ 48 →
    (0x400 < offset.toNat + data.length ∨ (offset.toNat < 0x080 ∧ 0x080 < offset.toNat + data.length) →
      exec (.writePolicy tag offset data) s = .next (refreshPins (answered s 0xE1 tag .badValue []))) ∧
    (offset.toNat + data.length ≤ 0x080 → s.store.frozen = true →
      exec (.writePolicy tag offset data) s = .next (refreshPins (answered s 0xE1 tag .denied []))) ∧
    ((offset.toNat + data.length ≤ 0x080 ∧ s.store.frozen = false) ∨
        (0x080 ≤ offset.toNat ∧ offset.toNat + data.length ≤ 0x400) →
      (outsideSets s.store.image offset.toNat data →
        exec (.writePolicy tag offset data) s = .next (refreshPins (answered s 0xE1 tag .badValue []))) ∧
      (¬ outsideSets s.store.image offset.toNat data →
        exec (.writePolicy tag offset data) s = .next (refreshPins { s with link :=
          { slot := { rkind := 0xE1, tag := tag, status := .pending, payload := [] },
            processing := some (.writePolicy tag offset.toNat data
              (if data.length ≤ 16 then 5 else if data.length ≤ 32 then 10 else 15)) } })))

/-- When a policy write completes, each field touched holds its written value brought into range and the active policy takes
it, number, enumeration, keymap entry and curve by R192's places, and keeps the fields not touched; every other byte of the block but the check stays or takes its data byte; the check matches, the other block, FACTORY
and the freeze state stay. R comes between F and Pmax, H follows, the charger settles, and the response stands in the slot.
The model's choice: F and Pmax that are no multiples of 250, an enumeration outside its set, a curve of no points, bounds that name
another field (log entries 41, 16, 18 and 52). -/
def Obligations.PolicyWriteCompletes : Prop :=
  ∀ (tag : Byte) (offset ms : Nat) (data : List Byte) (b : Block) (s : State), s.store.image.wf = true →
    s.link.processing = some (.writePolicy tag offset data ms) → writeBlock offset data.length = some b →
    ∃ t, exec .policyWriteComplete s = .next t ∧ t.link.processing = none ∧
      t.link.slot.rkind = 0xE1 ∧ t.link.slot.tag = tag ∧
      (t.link.slot.status = .ok ∨ t.link.slot.status = .clamped) ∧
      (t.link.slot.status = .clamped ↔ ∃ f ∈ b.fields, touches offset data.length f.offset f.size ∧
        inRangeOf f.kind (spelled s.store.image offset data f.offset f.size) ≠
          spelled s.store.image offset data f.offset f.size) ∧
      t.link.slot.payload = le16 offset ++ (List.range data.length).map (fun i => t.store.image.read (offset + i)) ∧
      blockValid t.store.image b = true ∧ t.store.image.wf = true ∧
      (∀ a, (if b = .prot then 0x080 ≤ a else a < 0x080 ∨ 0x400 ≤ a) → t.store.image.read a = s.store.image.read a) ∧
      (∀ f ∈ b.fields, touches offset data.length f.offset f.size → spelledIn t.store.image f.offset f.size =
        inRangeOf f.kind (spelled s.store.image offset data f.offset f.size)) ∧
      (∀ a, a < b.checkAt → (∀ f ∈ b.fields, touches offset data.length f.offset f.size →
          ¬ (f.offset ≤ a ∧ a < f.offset + f.size)) →
        t.store.image.read a =
          if offset ≤ a ∧ a < offset + data.length then data.getD (a - offset) 0 else s.store.image.read a) ∧
      TakenFrom (touches offset data.length) (spelled s.store.image offset data) s.store.policy t.store.policy ∧
      (∀ place size lo hi get, (place, size, lo, hi, get) ∈ numbers → touches offset data.length place size →
        spelledIn t.store.image place size = get t.store.policy) ∧
      (∀ place lo hi get, (place, lo, hi, get) ∈ signedNumbers → touches offset data.length place 2 →
        (BitVec.ofNat 16 (spelledIn t.store.image place 2)).toInt = get t.store.policy) ∧
      t.store.policy = (b.fields.filter fun f => decide (f.offset < offset + data.length ∧ offset < f.offset + f.size)).foldl
        (fun p f => f.put p (f.take (spelledIn t.store.image f.offset f.size))) s.store.policy ∧
      processorFloor t.store.policy ≤ t.bud.r ∧ t.bud.r ≤ processorMax t.store.policy ∧ HeatFollows t ∧
      t.chg.iSet = setPoint t ∧ (∀ k, t.chg.selected = some k → runsUnheld (t.chg.packs.get k).phase → ¬ holdCondition t k) ∧
      t.store.factory = s.store.factory ∧ t.store.frozen = s.store.frozen ∧ t.post = s.post ∧ t.now = s.now

/-- FREEZE_POLICY is refused for a wrong byte, when FROZEN and when the PROTECTED block fails its check or was INVALID; else
it programs for 5 ms, and its completion makes the state FROZEN and answers OK. -/
def Obligations.FreezePolicyFreezes : Prop :=
  (∀ (tag confirmation : Byte) (s : State), s.link.processing = none →
    (confirmation ≠ 0xC3 → exec (.freezePolicy tag confirmation) s = .next (refreshPins (answered s 0xE2 tag .badValue []))) ∧
    (confirmation = 0xC3 → s.store.frozen = true →
      exec (.freezePolicy tag confirmation) s = .next (refreshPins (answered s 0xE2 tag .denied []))) ∧
    (confirmation = 0xC3 → s.store.frozen = false →
      (blockValid s.store.image .prot = false ∨ s.store.protectedValid = false) →
      exec (.freezePolicy tag confirmation) s = .next (refreshPins (answered s 0xE2 tag .badState []))) ∧
    (confirmation = 0xC3 → s.store.frozen = false → blockValid s.store.image .prot = true → s.store.protectedValid = true →
      exec (.freezePolicy tag confirmation) s = .next (refreshPins { s with link :=
        { slot := { rkind := 0xE2, tag := tag, status := .pending, payload := [] },
          processing := some (.freeze tag 5) } }))) ∧
  (∀ (tag : Byte) (ms : Nat) (s : State), s.link.processing = some (.freeze tag ms) →
    exec .freezeComplete s = .next (refreshPins { s with store := { s.store with frozen := true }, link :=
      { slot := { rkind := 0xE2, tag := tag, status := .ok, payload := [] }, processing := none } }))

/-- Once FROZEN, with no write into PROTECTED in processing, every step keeps that so: the freeze state, every stored byte
of PROTECTED and, when they were loaded from a block that passes its check, the active values taken from it. -/
def Obligations.FrozenBlockNeverChanges : Prop :=
  ∀ s t : State, s.store.frozen = true → ¬ writesProtected s → step s = .next t →
    t.store.frozen = true ∧ ¬ writesProtected t ∧ (∀ a, a < 0x080 → t.store.image.read a = s.store.image.read a) ∧
    (blockValid s.store.image .prot = true → s.store.protectedValid = true →
      protectedValues s.store.policy = protectedValues (loadPolicy s.store.image true s.store.generalValid) →
      t.store.protectedValid = true ∧ protectedValues t.store.policy = protectedValues s.store.policy)

/-- Every step keeps the stored regions in their canonical form, and FACTORY as it is. -/
def Obligations.EveryStepKeepsStoredForm : Prop :=
  ∀ s t : State, s.store.image.wf = true → s.store.factory.wf = true → step s = .next t →
    t.store.image.wf = true ∧ t.store.factory = s.store.factory

/-! ### Power sequencer -/

/-- REQUEST_POWER_STATE is refused outside RUN, with a transition pending and for another target; accepted, it writes the
pending transition and stops the windows, and with a settle delay of 0 the transition starts as a settle expiry. -/
def Obligations.RequestPowerStateIsJudged : Prop :=
  ∀ (tag target : Byte) (s : State), s.link.processing = none →
    (2 < target.toNat → exec (.requestPowerState tag target) s = .next (refreshPins (answered s 0x91 tag .badValue []))) ∧
    (target.toNat ≤ 2 → s.pwr.state ≠ .run →
      exec (.requestPowerState tag target) s = .next (refreshPins (answered s 0x91 tag .badState []))) ∧
    (target.toNat ≤ 2 → s.pwr.state = .run → s.pwr.transition.isSome = true →
      exec (.requestPowerState tag target) s = .next (refreshPins (answered s 0x91 tag .busy []))) ∧
    (∀ x u, target.toNat = x.index → s.pwr.state = .run → s.pwr.transition = none →
      u = { s with pwr := { s.pwr with transition := some (x, min 2000 s.store.policy.settleDelay) },
                   notice := { s.notice with critWindow := none, tripWindow := none } } →
      (s.store.policy.settleDelay ≠ 0 →
        exec (.requestPowerState tag target) s = .next (refreshPins (answered u 0x91 tag .ok []))) ∧
      (s.store.policy.settleDelay = 0 → ∃ v, exec .settleExpiry u = .next v ∧
        exec (.requestPowerState tag target) s = .next (refreshPins (answered v 0x91 tag .ok []))))

/-- SET_WAKE_SOURCES and SET_WAKE_TIMER: the value is tested, then the state; accepted, they write the wake set, with
BUTTON, and the wake timer, a count above 86,400 taken as 86,400 and 0 as disarmed. The model's choice: the echo (log
entry 13). -/
def Obligations.WakeSettingsAreJudged : Prop :=
  (∀ (tag sources : Byte) (s : State), s.link.processing = none →
    ((sources.getLsbD 0 = true ∨ 64 ≤ sources.toNat) →
      exec (.setWakeSources tag sources) s = .next (refreshPins (answered s 0x92 tag .badValue []))) ∧
    (sources.getLsbD 0 = false → sources.toNat < 64 →
      (s.pwr.state ≠ .run → exec (.setWakeSources tag sources) s = .next (refreshPins (answered s 0x92 tag .badState []))) ∧
      (s.pwr.state = .run → exec (.setWakeSources tag sources) s = .next (refreshPins (answered
        (withPower s { s.pwr with wakeSet :=
          { lidOpen := sources.getLsbD 1, keyboard := sources.getLsbD 2, adapterChange := sources.getLsbD 3,
            packChange := sources.getLsbD 4, timer := sources.getLsbD 5 } }) 0x92 tag .ok [sources ||| 1]))))) ∧
  (∀ (tag : Byte) (seconds : BitVec 32) (s : State), s.link.processing = none →
    (s.pwr.state ≠ .run → exec (.setWakeTimer tag seconds) s = .next (refreshPins (answered s 0x93 tag .badState []))) ∧
    (s.pwr.state = .run → 86400 < seconds.toNat → exec (.setWakeTimer tag seconds) s = .next (refreshPins (answered
      (withPower s { s.pwr with wakeTimer := some 86400, wakeTimerMs := 0 }) 0x93 tag .clamped [0x80, 0x51, 0x01, 0x00]))) ∧
    (s.pwr.state = .run → seconds.toNat ≤ 86400 → exec (.setWakeTimer tag seconds) s = .next (refreshPins (answered
      (withPower s { s.pwr with wakeTimer := if seconds = 0 then none else some seconds.toNat, wakeTimerMs := 0 })
      0x93 tag .ok []))))

/-- The button: a press counts once a release has been seen; a short press in RUN latches BUTTON_PRESS; in POWER_UP,
RESUME and POWER_DOWN, and at the third failure, it does nothing; a long press does nothing in OFF, SLEEP_ENTRY,
POWER_DOWN and FAULT_OFF. The model's choice: events that do not fit the state (log entry 23). -/
def Obligations.ButtonActsByState : Prop :=
  ∀ s : State,
    (s.pwr.button = .released → exec .powerButtonPress s = .next (refreshPins (withPower s { s.pwr with button := .held 0 }))) ∧
    (s.pwr.button ≠ .released → exec .powerButtonPress s = .next (refreshPins s)) ∧
    (s.pwr.button = .unseen ∨ s.pwr.button = .spent →
      exec .powerButtonRelease s = .next (refreshPins (withPower s { s.pwr with button := .released }))) ∧
    ((∀ ms, s.pwr.button ≠ .held ms) → exec .shortPress s = .next (refreshPins s) ∧ exec .longPress s = .next (refreshPins s)) ∧
    (∀ ms, s.pwr.button = .held ms →
      (s.pwr.state = .run → exec .shortPress s =
        .next (refreshPins (latch .buttonPress .empty (withPower s { s.pwr with button := .released })))) ∧
      (s.pwr.state = .powerUp ∨ s.pwr.state = .resume ∨ s.pwr.state = .powerDown ∨
          (s.pwr.state = .faultOff ∧ 3 ≤ s.pwr.failureCount) →
        exec .shortPress s = .next (refreshPins (withPower s { s.pwr with button := .released }))) ∧
      (s.pwr.state = .off ∨ s.pwr.state = .sleepEntry ∨ s.pwr.state = .powerDown ∨ s.pwr.state = .faultOff →
        exec .longPress s = .next (refreshPins (withPower s { s.pwr with button := .spent }))))

/-- A power-on request is refused while a HARD crossing holds and when the start energy check fails, with the cause
recorded and displayed; one that passes starts POWER_UP with MEM enabled and its up timeout running. The model's choice:
the display starts again (log entry 30). -/
def Obligations.PowerOnRequestsAreJudged : Prop :=
  ∀ (c : Instr) (cause : WakeCause) (p : Sequencer) (s : State), asksForPower c s cause p →
    (hardCrossing s → exec c s = .next (refreshPins (refusedPower s p .thermalHard))) ∧
    (¬ hardCrossing s → ¬ passesStart s → exec c s = .next (refreshPins (refusedPower s p .noEnergy))) ∧
    (¬ hardCrossing s → passesStart s → (s.pwr.rails.get .mem).good = false →
      ∃ t, exec c s = .next (ended s t) ∧ beside t = beside s ∧
        t.pwr = { p with state := .powerUp, wakeCause := cause, refusal := .none, reboot := none,
                         refusalDisplay := none, wakeExpired := false,
                         rails := p.rails.set .mem { p.rails.get .mem with enabled := true },
                         upWait := some (.mem, max 1 (min 100 s.store.policy.upTimeout)) })

/-- The power-good waited on makes its rail UP_OK and enables the next one with a fresh timeout; DISP's makes RUN, with the
failure count and the reboot restart cleared, the marker set, a WAKE event of the wake cause, and the escalation window of
each condition that holds running. -/
def Obligations.RailsComeUpInOrder : Prop :=
  ∀ (r : Rail) (ms : Nat) (s : State), s.pwr.upWait = some (r, ms) →
    (∀ x, x ≠ r → exec (.powerGoodRise x) s =
      .next (refreshPins (withPower s (railAfter s.pwr x { s.pwr.rails.get x with good := true })))) ∧
    (∀ next, (r, next) ∈ [(Rail.mem, Rail.io), (.io, .core), (.core, .periph), (.periph, .disp)] →
      (s.pwr.rails.get next).good = false →
      exec (.powerGoodRise r) s = .next (refreshPins (withPower s
        { railAfter (railAfter s.pwr r { s.pwr.rails.get r with good := true, outcome := .upOk })
            next { s.pwr.rails.get next with enabled := true } with
          upWait := some (next, max 1 (min 100 s.store.policy.upTimeout)) }))) ∧
    (r = .disp → ∃ t, exec (.powerGoodRise .disp) s = .next (ended s t) ∧
      t.pwr = { railAfter s.pwr .disp { s.pwr.rails.get .disp with good := true, outcome := .upOk } with
                state := .run, failureCount := 0, reboot := none, upWait := none, refusalDisplay := none,
                wakeExpired := false } ∧
      t.store = { s.store with marker := true } ∧ (t.entry .wake).pending = true ∧
      ((s.entry .wake).pending = false → (t.entry .wake).payload = .wake s.pwr.wakeCause ∧
        (t.entry .wake).count = 1 ∧ (t.entry .wake).latchTime = time32 s.now) ∧
      windowStarts (s.chg.energy = .critical ∨ s.chg.energy = .criticalHard) s.store.policy.critWindow s.notice.critWindow
        t.notice.critWindow ∧
      windowStarts (∃ k, (s.sensor k).trip = true) s.store.policy.tripWindow s.notice.tripWindow t.notice.tripWindow ∧
      t.kbd.dimmed = false ∧ t.post = s.post ∧ t.bud = s.bud ∧ t.thr = s.thr ∧ t.link = s.link ∧ t.now = s.now)

/-- A long press, an escalation expiry and a settle expiry start the way down with their down cause: rails that are not enabled,
or whose power-good is already low, are passed without a wait, the next one in reverse order is disabled, and its down wait of
50 ms runs while its power-good is high. The forced ways down stand with the energy status and the conversion round. -/
def Obligations.WayDownStarts : Prop :=
  ∀ (c : Instr) (new : PlatformState) (p : Sequencer) (s : State) (r : Rail) (before after : List Rail),
    startsDown c s new p → s.pwr.downWait = none → downRails new = before ++ r :: after →
    (∀ x ∈ before, isPassed s x) → (s.pwr.rails.get r).enabled = true → (s.pwr.rails.get r).good = true →
    ∃ t, exec c s = .next (ended s t) ∧ beside t = beside s ∧
      t.pwr = { railAfter { p with rails := passed s.pwr.rails before } r { s.pwr.rails.get r with enabled := false } with
                state := new, upWait := none, refusalDisplay := none, wakeExpired := false, downWait := some (r, 50) }

/-- When a rail's down wait ends, by its power-good or by its time, the next enabled rail with power-good high is disabled
and waited on; with no such rail left SLEEP_ENTRY reaches SLEEP, where a held wake starts RESUME, and POWER_DOWN reaches
OFF, with what every block does at OFF entry: marker clear, settings of the sequencer, scanner, budget unit and fans at the
policy defaults, H for the fan mode, the scanner empty, and every entry but RAIL_EVENT cleared with its payload kept, the
standing conditions latched again. A wait that expires latches SLOW_DISCHARGE, the last rail's too. The model's choice: IO
whose power-good is still high counts as up in RESUME, the starting short flag (log entries 24 and 40). -/
def Obligations.WayDownGoesOn : Prop :=
  ∀ (c : Instr) (r : Rail) (ms : Nat) (e : RailEntry) (s : State) (before after : List Rail),
    s.pwr.downWait = some (r, ms) → (s.pwr.state = .powerDown ∨ s.pwr.state = .sleepEntry) →
    downRails s.pwr.state = before ++ r :: after → endsWait c s r e →
    (∀ (next : Rail) (skipped rest : List Rail), after = skipped ++ next :: rest →
      (∀ x ∈ skipped, isPassed s x) → (s.pwr.rails.get next).enabled = true → (s.pwr.rails.get next).good = true →
      ∃ t, exec c s = .next (ended s t) ∧ beside t = beside s ∧ slowLatched c s t r ∧
        t.pwr = { railAfter { s.pwr with rails := passed (s.pwr.rails.set r e) skipped } next
                    { s.pwr.rails.get next with enabled := false } with downWait := some (next, 50) } ∧
        (∀ k, k ≠ .railEvent → t.entry k = s.entry k)) ∧
    ((∀ x ∈ after, isPassed s x) → s.pwr.state = .sleepEntry → s.pwr.heldWake = none →
      ∃ t, exec c s = .next (ended s t) ∧ beside t = beside s ∧ slowLatched c s t r ∧
        t.pwr = { s.pwr with
                  rails := passed (s.pwr.rails.set r e) after, state := .sleep, downWait := none, refusalDisplay := none,
                  wakeExpired := false }) ∧
    ((∀ x ∈ after, isPassed s x) → s.pwr.state = .sleepEntry → ∀ cause, s.pwr.heldWake = some cause →
      ((passed (s.pwr.rails.set r e) after).get .io).good = false →
      ∃ t, exec c s = .next (ended s t) ∧ beside t = beside s ∧ slowLatched c s t r ∧
        t.pwr = { s.pwr with
                  rails := (passed (s.pwr.rails.set r e) after).set .io
                    { (passed (s.pwr.rails.set r e) after).get .io with enabled := true },
                  state := .resume, wakeCause := cause, heldWake := none, downWait := none, refusalDisplay := none,
                  wakeExpired := false, upWait := some (.io, max 1 (min 100 s.store.policy.upTimeout)) }) ∧
    ((∀ x ∈ after, isPassed s x) → s.pwr.state = .sleepEntry → ∀ cause, s.pwr.heldWake = some cause →
      ((passed (s.pwr.rails.set r e) after).get .io).good = true →
      ((passed (s.pwr.rails.set r e) after).get .core).good = false →
      ∃ t, exec c s = .next (ended s t) ∧ beside t = beside s ∧ slowLatched c s t r ∧
        t.pwr = { s.pwr with
                  rails := ((passed (s.pwr.rails.set r e) after).set .io { enabled := true, good := true, outcome := .upOk }).set
                    .core { (passed (s.pwr.rails.set r e) after).get .core with enabled := true },
                  state := .resume, wakeCause := cause, heldWake := none, downWait := none, refusalDisplay := none,
                  wakeExpired := false, upWait := some (.core, max 1 (min 100 s.store.policy.upTimeout)) }) ∧
    ((∀ x ∈ after, isPassed s x) → s.pwr.state = .powerDown →
      ∃ t, exec c s = .next (ended s t) ∧ slowLatched c s t r ∧
        t.pwr = { s.pwr with
                  rails := passed (s.pwr.rails.set r e) after, state := .off, transition := none, downWait := none,
                  refusalDisplay := none, wakeExpired := false,
                  wakeSet := s.store.policy.wakeDefault, reboot := s.pwr.reboot.map fun _ => .offTime 500 } ∧
        t.store = { s.store with marker := false } ∧
        t.bud = { s.bud with r := processorFloor s.store.policy, mode := s.store.policy.modeDefault,
                             boost := s.store.policy.boostDefault } ∧
        t.thr.mode = s.store.policy.fanModeDefault ∧ t.thr.holdOver = s.thr.holdOver ∧ HeatFollows t ∧
        (∀ f, t.thr.fans.get f = { s.thr.fans.get f with manual := 0 }) ∧
        (∀ k, { t.sensor k with hs := 0 } = { s.sensor k with hs := 0 }) ∧
        t.kbd.queue = [] ∧ t.kbd.held = [] ∧ t.kbd.positions = [] ∧ t.kbd.suppressed = true ∧ t.kbd.idle = none ∧
        t.kbd.mode = .stopped ∧ t.kbd.overflowed = false ∧ t.kbd.overrides = [] ∧ t.kbd.caps = false ∧ t.kbd.num = false ∧
        t.kbd.mute = false ∧ t.kbd.enabled = s.store.policy.keyboardDefault ∧ t.kbd.route = s.store.policy.routeDefault ∧
        t.kbd.level = min 3 s.store.policy.backlightDefault ∧
        t.notice.floor = s.notice.floor ∧ t.notice.critWindow = none ∧ t.notice.tripWindow = none ∧
        (∀ k, (t.entry k).level = (s.entry k).level ∧ (t.entry k).mask = (s.entry k).mask) ∧ LatchedAgain s t (combined t) ∧
        (∀ k, k ≠ .criticalEnergy → k ≠ .thermalTrip → k ≠ .budgetShort → k ≠ .railEvent →
          (t.entry k).pending = false ∧ (t.entry k).count = 0) ∧
        (∀ k, ¬ standing s k → k ∉ [Kind.sourceChanged, .chargeState, .calibrationStatus, .keyAvailable, .keyRollover, .railEvent] →
          (t.entry k).payload = (s.entry k).payload ∧ (t.entry k).latchTime = (s.entry k).latchTime) ∧
        t.post = s.post ∧ t.link = s.link ∧ t.now = s.now)

/-- A rail fault disables every rail, writes the fault record, raises the failure count up to 3, ends what was pending,
latches FAULT and makes FAULT_OFF with the wake timer disarmed; a power-good loss in another state is LOST on an enabled rail
that was up, and else changes its level alone. -/
def Obligations.RailFaultsTurnThePlatformOff : Prop :=
  (∀ (c : Instr) (r : Rail) (phase : FaultPhase) (e : RailEntry) (s : State), faultsRail c s r phase e →
    ∃ t, exec c s = .next (ended s t) ∧ beside t = beside s ∧
      t.pwr = { railAfter s.pwr r e with
                state := .faultOff, faultRecord := some (r, phase), failureCount := min 3 (s.pwr.failureCount + 1),
                transition := none, heldWake := none, upWait := none, downWait := none, wakeTimer := none,
                wakeTimerMs := 0, refusalDisplay := none, wakeExpired := false,
                rails := { mem := disabled ((s.pwr.rails.set r e).mem), io := disabled ((s.pwr.rails.set r e).io),
                           core := disabled ((s.pwr.rails.set r e).core),
                           periph := disabled ((s.pwr.rails.set r e).periph),
                           disp := disabled ((s.pwr.rails.set r e).disp) } } ∧
      railEventLatched s t r (some phase) ∧ t.notice.critWindow = (if s.pwr.state = .run then none else s.notice.critWindow) ∧
      t.kbd.mode = .stopped) ∧
  (∀ (r : Rail) (s : State), ((s.pwr.rails.get r).good = false ∨ (s.pwr.rails.get r).enabled = false ∨ s.pwr.state = .off ∨
      s.pwr.state = .powerDown ∨ s.pwr.state = .faultOff ∨ (s.pwr.state = .sleepEntry ∧ r ≠ .mem)) →
    (∀ ms, s.pwr.downWait ≠ some (r, ms)) →
    exec (.powerGoodFall r) s =
      .next (refreshPins (withPower s (railAfter s.pwr r
        { enabled := (s.pwr.rails.get r).enabled, good := false,
          outcome := if (s.pwr.rails.get r).enabled ∧ (s.pwr.rails.get r).good then .lost
                     else (s.pwr.rails.get r).outcome }))))

/-- In SLEEP the wake timer, with TIMER in the wake set, and a short press start RESUME with IO enabled; in SLEEP_ENTRY a short
press is held, the first one kept. The armed timer counts once per second in SLEEP and OFF alone; at 0 it disarms itself and
its expiry is due. The model's choice: the ms toward the next second (log entry 4). -/
def Obligations.WakesStartResume : Prop :=
  (∀ (s : State) (p : Sequencer) (c : Instr) (cause : WakeCause),
    ((c = .wakeTimerExpiry ∧ cause = .timer ∧ timerDue s ∧ s.pwr.wakeSet.timer = true ∧ p = timerSpent s) ∨
      (c = .shortPress ∧ cause = .button ∧ (∃ ms, s.pwr.button = .held ms) ∧ p = { s.pwr with button := .released })) →
    (s.pwr.state = .sleep → (s.pwr.rails.get .io).good = false → ∃ t, exec c s = .next (ended s t) ∧ beside t = beside s ∧
      t.pwr = resumed s p cause) ∧
    (s.pwr.state = .sleepEntry → c = .shortPress →
      exec c s = .next (refreshPins (withPower s { p with heldWake := held s .button })))) ∧
  (∀ (n : Nat) (s : State), s.pwr.wakeTimer = some n → s.pending = [] → dueEvents s = [] →
    ∃ t, step s = .next t ∧ t.now = s.now + 1 ∧ t.pwr.state = s.pwr.state ∧
      (¬ timerCounts s ∨ s.pwr.wakeTimerMs < 999 → t.pwr.wakeTimer = some n ∧
        t.pwr.wakeTimerMs = (if timerCounts s then s.pwr.wakeTimerMs + 1 else s.pwr.wakeTimerMs)) ∧
      (timerCounts s → 999 ≤ s.pwr.wakeTimerMs → t.pwr.wakeTimerMs = 0 ∧
        (1 < n → t.pwr.wakeTimer = some (n - 1)) ∧
        (n ≤ 1 → t.pwr.wakeTimer = none ∧ t.pwr.wakeExpired = true ∧ .wakeTimerExpiry ∈ dueEvents t)))

/-- A timer of the sequencer that is not running, and a decision or expiry that asks for nothing, start nothing. The
model's choice: expiries of timers that do not run (log entry 23). -/
def Obligations.SequencerTimersWithNothingToDo : Prop :=
  ∀ s : State,
    (s.pwr.upWait = none → exec .upTimeoutExpiry s = .next (refreshPins s)) ∧
    (s.pwr.downWait = none → exec .downWaitExpiry s = .next (refreshPins s)) ∧
    (s.pwr.transition = none → exec .settleExpiry s = .next (refreshPins s)) ∧
    ((∀ ms, s.pwr.reboot ≠ some (.offTime ms)) → exec .rebootOffTimeExpiry s = .next (refreshPins s)) ∧
    ((¬ timerDue s ∨ (s.pwr.state ≠ .sleep ∧ s.pwr.state ≠ .off)) →
      exec .wakeTimerExpiry s = .next (refreshPins s)) ∧
    (timerDue s → s.pwr.state = .sleep → s.pwr.wakeSet.timer = false →
      exec .wakeTimerExpiry s = .next (refreshPins (withPower s (timerSpent s)))) ∧
    ((s.pwr.state ≠ .off ∨ s.store.policy.restore = .stayOff ∨
        (s.store.policy.restore = .lastState ∧ s.store.marker = false)) →
      exec .restoreDecision s = .next (refreshPins (withPower s { s.pwr with restoreTaken := true }))) ∧
    exec .refusalDisplayEnd s = .next (refreshPins (withPower s { s.pwr with refusalDisplay := none })) ∧
    (∀ w, windowLeft w s = none → exec (.escalationExpiry w) s = .next (refreshPins s))

/-! ### Posture monitor -/

/-- A debounced hall level and a valid angle sample write their field; while a hall field is UNKNOWN that is all. Else the
evaluation holds the posture in a conflict, which POSTURE_CONFLICT reports once, or acts on the candidate of the bands with
their hysteresis, or of the halls alone. -/
def Obligations.PostureInputsAreEvaluated : Prop :=
  ∀ (c : Instr) (s : State) (p : PostureMonitor), evaluates c s p →
    (p.lid = .unknown ∨ p.fold = .unknown → exec c s = .next (refreshPins { s with post := p })) ∧
    (p.lid ≠ .unknown → p.fold ≠ .unknown → p.evaluated = false → p.mode = .angle → conflicting p → p.conflict = none →
      exec c s = .next (refreshPins (latch .postureChanged (.postureChanged p.posture p.angle .angle)
        (latch .postureConflict .empty
          { s with post := { p with candidate := none, dwell := 0, conflict := some 0, evaluated := true } })))) ∧
    (p.lid ≠ .unknown → p.fold ≠ .unknown → p.evaluated = true →
      (p.mode = .angle → conflicting p →
        (p.conflict = none → exec c s = .next (refreshPins (latch .postureConflict .empty
          { s with post := { p with candidate := none, dwell := 0, conflict := some 0 } }))) ∧
        (p.conflict.isSome = true → exec c s = .next (refreshPins { s with post := p }))) ∧
      (p.mode = .angle → ¬ conflicting p → ∀ q, isCandidate p q →
        exec c s = .next (refreshPins { s with post := acted { p with conflict := none } q })) ∧
      (p.mode = .hallOnly → ∀ q, isCandidate p q →
        (p.angleState = .valid ∧ ¬ conflicting p →
          exec c s = .next (refreshPins { s with post := acted { p with returning := true } q })) ∧
        (¬ (p.angleState = .valid ∧ ¬ conflicting p) →
          exec c s = .next (refreshPins { s with post := acted { p with returning := false, returnElapsed := 0 } q }))))

/-- A commit writes the posture, ends the dwell, decides the scanner's suppression, latches POSTURE_CHANGED with posture,
angle and mode, and is a LID_OPEN wake in SLEEP and SLEEP_ENTRY when it leaves CLOSED. The thermal records follow: the skins'
WARN against the new posture's limits, the fans' safe floor, H; no candidate, no commit. The model's choice: an expiry with no
candidate, no stall override before the next fan step (log entries 23 and 47). -/
def Obligations.CommitsReachEveryConsumer : Prop :=
  (∀ s : State, s.post.candidate = none → exec .dwellExpiry s = .next (refreshPins s)) ∧
  (∀ (c : Instr) (s : State) (p : PostureMonitor) (q : Posture), commits c s p q →
    (s.pwr.state = .sleep → (s.pwr.rails.get .io).good = false) →
    ∃ t, exec c s = .next (ended s t) ∧ t.post = { p with posture := q, candidate := none, dwell := 0 } ∧
      (t.entry .postureChanged).pending = true ∧
      (t.entry .postureChanged).payload = .postureChanged q p.angle p.mode ∧
      (t.entry .postureChanged).latchTime = time32 s.now ∧
      (s.pwr.state ≠ .sleep → (t.kbd.suppressed = false ↔
        q = .laptop ∧ s.pwr.state = .run ∧ s.kbd.enabled = true) ∧ t.packs = s.packs ∧ t.chg = s.chg) ∧
      ((s.pwr.state ≠ .sleep ∧ s.pwr.state ≠ .sleepEntry) ∨ p.posture ≠ .closed ∨ q = .closed ∨
        s.pwr.wakeSet.lidOpen = false → t.pwr = s.pwr) ∧
      (p.posture = .closed → q ≠ .closed → s.pwr.wakeSet.lidOpen = true →
        (s.pwr.state = .sleep → t.pwr = resumed s s.pwr .lidOpen) ∧
        (s.pwr.state = .sleepEntry → t.pwr = { s.pwr with heldWake := held s .lidOpen })) ∧
      HeatFollows t ∧
      (∀ k, k = .soc ∨ k = .charger → { t.sensor k with hs := 0 } = { s.sensor k with hs := 0 }) ∧
      (∀ k, k = .deck ∨ k = .base →
        { t.sensor k with hs := 0 } = { s.sensor k with hs := 0, warn := (t.sensor k).warn } ∧
        ((s.sensor k).state ≠ .valid ∨ (s.sensor k).temp = none → (t.sensor k).warn = (s.sensor k).warn) ∧
        (∀ x, (s.sensor k).state = .valid → (s.sensor k).temp = some x →
          crossed (s.sensor k).warn (t.sensor k).warn x (warnOf s.store.policy q k)) ∧
        ((s.sensor k).warn = false → (t.sensor k).warn = true → (t.entry .thermalWarn).pending = true)) ∧
      (∀ f, (floorHolds t f → t.thr.fans.get f = { s.thr.fans.get f with
          commanded := max (s.thr.fans.get f).commanded (safeFloor s f),
          target := max (s.thr.fans.get f).target (safeFloor s f) }) ∧
        (¬ floorHolds t f → t.thr.fans.get f = s.thr.fans.get f)) ∧
      t.thr.mode = s.thr.mode ∧ t.bud = s.bud ∧ t.link = s.link ∧ t.store = s.store ∧ t.now = s.now)

/-- The conflict timer and an angle rail fault in ANGLE mode enter HALL_ONLY, with the dwell and the conflict ended and,
once evaluated, POSTURE_CHANGED latched and the candidate taken from the halls; in HALL_ONLY a fault restarts the return,
and the return timer goes back to ANGLE mode. The model's choice: expiries of timers that do not run (log entry 23). -/
def Obligations.ModeChangesOfThePostureMonitor : Prop :=
  (∀ s : State, s.post.conflict = none → exec .conflictTimerExpiry s = .next (refreshPins s)) ∧
  (∀ s : State, (s.post.mode = .angle ∨ s.post.returning = false) → exec .returnTimerExpiry s = .next (refreshPins s)) ∧
  (∀ (raw : BitVec 12) (s : State), ¬ goodSample s raw → s.post.mode = .hallOnly →
    exec (.angleSample raw) s = .next (refreshPins
      { s with post := { s.post with angleState := .railFault, returnElapsed := 0, returning := false } })) ∧
  (∀ (raw : BitVec 12) (s : State), ¬ goodSample s raw → s.post.mode = .angle → s.post.evaluated = false →
    exec (.angleSample raw) s = .next (refreshPins
      { s with post := { s.post with angleState := .railFault, mode := .hallOnly, candidate := none, dwell := 0,
                                     conflict := none, returnElapsed := 0, returning := false } })) ∧
  (∀ (c : Instr) (s : State) (p : PostureMonitor) (q : Posture) (back : Bool), s.post.evaluated = true →
    s.post.lid ≠ .unknown → s.post.fold ≠ .unknown → (back = true ↔ p.angleState = .valid ∧ ¬ conflicting p) →
    ((c = .conflictTimerExpiry ∧ s.post.conflict.isSome = true ∧ p = s.post) ∨
      (∃ raw, c = .angleSample raw ∧ ¬ goodSample s raw ∧ s.post.mode = .angle ∧ p = { s.post with angleState := .railFault })) →
    isCandidate { p with mode := .hallOnly } q →
    exec c s = .next (refreshPins (latch .postureChanged (.postureChanged p.posture p.angle .hallOnly)
      { s with post := acted { p with mode := .hallOnly, candidate := none, dwell := 0, conflict := none, returnElapsed := 0,
                                      returning := back } q }))) ∧
  (∀ (s : State) (q : Posture), s.post.mode = .hallOnly → s.post.returning = true → s.post.evaluated = true →
    s.post.lid ≠ .unknown → s.post.fold ≠ .unknown → ¬ conflicting s.post → isCandidate { s.post with mode := .angle } q →
    exec .returnTimerExpiry s = .next (refreshPins
      (latch .postureChanged (.postureChanged s.post.posture s.post.angle .angle)
        { s with post := acted { s.post with mode := .angle, candidate := none, dwell := 0, returnElapsed := 0,
                                             returning := false, conflict := none } q })))

/-! ### Keyboard scanner -/

/-- READ_KEYS returns up to the count of records, oldest first, and removes them; an emptied queue ends KEY_AVAILABLE, and with
the overflowed flag set it is refilled by the resync, which lists the held keys and latches KEY_AVAILABLE again. -/
def Obligations.ReadKeysDrainsTheQueue : Prop :=
  ∀ (tag count : Byte) (s : State), s.link.processing = none →
    (s.kbd.queue = [] → exec (.readKeys tag count) s = .next (refreshPins (answered s 0xB0 tag .noData []))) ∧
    (s.kbd.queue.drop (keysWanted count) ≠ [] → exec (.readKeys tag count) s = .next (refreshPins (answered
      { s with kbd := { s.kbd with queue := s.kbd.queue.drop (keysWanted count) } }
      0xB0 tag (statusFor (count.toNat = 0 ∨ 8 < count.toNat))
      ([BitVec.ofNat 8 (keysWanted count), BitVec.ofNat 8 (s.kbd.queue.length - keysWanted count), 0] ++
        (s.kbd.queue.take (keysWanted count)).flatMap recordBytes)))) ∧
    (s.kbd.queue ≠ [] → s.kbd.queue.drop (keysWanted count) = [] → s.kbd.overflowed = false →
      exec (.readKeys tag count) s = .next (refreshPins (answered
        (endCondition .keyAvailable { s with kbd := { s.kbd with queue := [] } })
        0xB0 tag (statusFor (count.toNat = 0 ∨ 8 < count.toNat))
        ([BitVec.ofNat 8 s.kbd.queue.length, 0, 0] ++ s.kbd.queue.flatMap recordBytes)))) ∧
    (s.kbd.queue ≠ [] → s.kbd.queue.drop (keysWanted count) = [] → s.kbd.overflowed = true → s.kbd.held.length ≤ 12 →
      ∃ t, exec (.readKeys tag count) s = .next t ∧ besideKeys t = besideKeys s ∧
        t.link.processing = none ∧ t.link.slot.rkind = 0xB0 ∧ t.link.slot.tag = tag ∧
        t.link.slot.status = statusFor (count.toNat = 0 ∨ 8 < count.toNat) ∧
        t.link.slot.payload = [BitVec.ofNat 8 s.kbd.queue.length, BitVec.ofNat 8 (1 + s.kbd.held.length), 1] ++
          s.kbd.queue.flatMap recordBytes ∧
        t.kbd = { s.kbd with overflowed := false, queue :=
                               ⟨0, .resync, .base, s.now % 65536⟩ ::
                               s.kbd.held.map fun h => ⟨h.code, .press, h.layer, s.now % 65536⟩ } ∧
        (t.entry .keyAvailable).pending = true ∧ (∀ k, k ≠ .keyAvailable → t.entry k = s.entry k))

/-- SET_KEYBOARD_CONTROL refuses a value outside its set; else it writes the settings, takes a level above 3 as 3, lights
the backlight again, restarts its timer and tests suppression, whose beginning releases the held keys. The model's choice:
byte forms (log entry 13). -/
def Obligations.SetKeyboardControlWritesTheSettings : Prop :=
  ∀ (tag keyboard route caps num mute level : Byte) (s : State), s.link.processing = none →
    ((1 < keyboard.toNat ∨ 1 < route.toNat ∨ 1 < caps.toNat ∨ 1 < num.toNat ∨ 1 < mute.toNat) →
      exec (.setKeyboardControl tag keyboard route caps num mute level) s =
        .next (refreshPins (answered s 0xB1 tag .badValue []))) ∧
    (keyboard.toNat ≤ 1 → route.toNat ≤ 1 → caps.toNat ≤ 1 → num.toNat ≤ 1 → mute.toNat ≤ 1 →
      ∃ t, exec (.setKeyboardControl tag keyboard route caps num mute level) s = .next t ∧ besideKeys t = besideKeys s ∧
        t.link.processing = none ∧ t.link.slot.rkind = 0xB1 ∧ t.link.slot.tag = tag ∧
        t.link.slot.status = statusFor (3 < level.toNat) ∧
        t.link.slot.payload = [keyboard, route, caps, num, mute, BitVec.ofNat 8 (min 3 level.toNat)] ∧
        t.kbd.enabled = decide (keyboard = 0) ∧ t.kbd.route = (if route = 0 then .scanner else .host) ∧
        t.kbd.caps = decide (caps = 0) ∧ t.kbd.num = decide (num = 0) ∧ t.kbd.mute = decide (mute = 0) ∧
        t.kbd.level = min 3 level.toNat ∧ t.kbd.dimmed = false ∧ t.kbd.overrides = s.kbd.overrides ∧
        t.kbd.mode = s.kbd.mode ∧
        t.kbd.idle = (if s.pwr.state = .run ∧ s.store.policy.idleTime ≠ 0 then
          some (1000 * max 5 (min 600 s.store.policy.idleTime)) else none) ∧
        (t.kbd.suppressed = false ↔ s.post.posture = .laptop ∧ s.pwr.state = .run ∧ keyboard = 0) ∧
        ((s.kbd.suppressed = true ∨ t.kbd.suppressed = false) →
          t.kbd.held = s.kbd.held ∧ t.kbd.queue = s.kbd.queue ∧ t.kbd.positions = s.kbd.positions) ∧
        (s.kbd.suppressed = false → t.kbd.suppressed = true → t.kbd.held = [] ∧
          (s.kbd.overflowed = false → s.kbd.queue.length + s.kbd.held.length ≤ 32 →
            t.kbd.queue = s.kbd.queue ++ s.kbd.held.map fun h => ⟨h.code, .release, h.layer, s.now % 65536⟩)))

/-- SET_KEYMAP_ENTRY refuses a position above 127 and a hotkey action outside its set; else the entry is in force for that
position and for no other. The model's choice: bits 3 and 7 of the attributes (log entry 21). -/
def Obligations.SetKeymapEntryOverridesOnePosition : Prop :=
  ∀ (tag position baseCode fnCode attributes : Byte) (s : State), s.link.processing = none →
    ((127 < position.toNat ∨ 4 < attributes.toNat / 16 % 8) →
      exec (.setKeymapEntry tag position baseCode fnCode attributes) s =
        .next (refreshPins (answered s 0xB2 tag .badValue []))) ∧
    (position.toNat ≤ 127 → ∀ a : HotkeyAction, attributes.toNat / 16 % 8 = a.index →
      sparseWf (fun _ => none) 0 s.kbd.overrides = true →
      ∃ t overrides, exec (.setKeymapEntry tag position baseCode fnCode attributes) s = .next t ∧
        t = refreshPins (answered { s with kbd := { s.kbd with overrides := overrides } } 0xB2 tag .ok
          [position, baseCode, fnCode, attributes &&& 0x77]) ∧
        keyInForce t position.toNat = { base := baseCode, fn := fnCode, modifier := attributes.getLsbD 0,
                                        fnKey := attributes.getLsbD 1, wake := attributes.getLsbD 2, hotkey := a } ∧
        (∀ q, q ≠ position.toNat → keyInForce t q = keyInForce s q) ∧
        sparseWf (fun _ => none) 0 overrides = true)

/-- A scan in ACTIVE mode takes every position through the debounce: agreement clears the count, a difference counts, and at
the press or release count the debounced state changes. -/
def Obligations.MatrixScanDebounces : Prop :=
  ∀ (raw : BitVec 128) (s : State), s.kbd.mode = .active → tableForm s →
    ∃ t, exec (.matrixScan raw) s = .next (ended s t) ∧ tableForm t ∧ ∀ p, p < 128 →
      (raw.getLsbD p = (s.position p).pressed →
        (t.position p).pressed = (s.position p).pressed ∧ (t.position p).count = 0) ∧
      (raw.getLsbD p ≠ (s.position p).pressed → (s.position p).count + 1 < threshold s (s.position p).pressed →
        (t.position p).pressed = (s.position p).pressed ∧ (t.position p).count = (s.position p).count + 1) ∧
      (raw.getLsbD p ≠ (s.position p).pressed → threshold s (s.position p).pressed ≤ (s.position p).count + 1 →
        (t.position p).pressed = raw.getLsbD p ∧ (t.position p).count = 0)

/-- The scan that takes the press of an ordinary key, alone on the matrix and not suppressed, holds it and queues its PRESS;
the scan that takes its release queues the RELEASE with the stored code and layer, the dimmed flag kept. The model's choice:
that it is kept with an idle time of 0 too (log entry 49). -/
def Obligations.OneKeyIsReported : Prop :=
  ∀ (p : Nat) (s : State), p < 128 → s.kbd.mode = .active → tableForm s → s.kbd.suppressed = false →
    s.kbd.overflowed = false → s.kbd.queue.length < 32 → (∀ q, q ≠ p → s.position q = freeRecord) →
    (s.position p = { pressed := false, count := threshold s false - 1, disposition := .free } →
      (keyInForce s p).fnKey = false → (keyInForce s p).base ≠ 0 → s.kbd.held.length < 12 →
      ∃ t, exec (.matrixScan (BitVec.twoPow 128 p)) s = .next t ∧ besideKeys t = besideKeys s ∧ t.link = s.link ∧
        t.kbd.held = s.kbd.held ++ [⟨p, (keyInForce s p).base, .base⟩] ∧
        t.kbd.queue = s.kbd.queue ++ [⟨(keyInForce s p).base, .press, .base, s.now % 65536⟩] ∧
        t.position p = { pressed := true, count := 0, disposition := .reported } ∧
        (∀ q, q ≠ p → t.position q = freeRecord) ∧ t.kbd.dimmed = false ∧
        (s.kbd.queue = [] → (t.entry .keyAvailable).pending = true) ∧ (∀ k, k ≠ .keyAvailable → t.entry k = s.entry k)) ∧
    (∀ (h : HeldKey) (older newer : List HeldKey),
      s.position p = { pressed := true, count := threshold s true - 1, disposition := .reported } →
      s.kbd.held = older ++ h :: newer → h.position = p → (∀ x ∈ older ++ newer, x.position ≠ p) →
      ∃ t, exec (.matrixScan 0) s = .next t ∧ besideKeys t = besideKeys s ∧ t.link = s.link ∧
        t.kbd.held = older ++ newer ∧
        t.kbd.queue = s.kbd.queue ++ [⟨h.code, .release, h.layer, s.now % 65536⟩] ∧
        t.position p = freeRecord ∧ (∀ q, q ≠ p → t.position q = freeRecord) ∧ t.kbd.dimmed = s.kbd.dimmed ∧
        (∀ k, k ≠ .keyAvailable → t.entry k = s.entry k))

/-- The scan that takes a press which no suppression and no ghost holds back acts by the keymap entry in force: an Fn key, an
unused position, a hotkey with Fn held and its action, or a reported press with the code of its layer, which ROLLOVER takes
when the held-key table is full. -/
def Obligations.PressesActByTheirKeymapEntry : Prop :=
  ∀ (p : Nat) (raw : BitVec 128) (s : State), steady s raw p → taken s raw p true → s.kbd.suppressed = false →
    (s.position p).disposition = .free → ¬ closesGhost s raw p →
    ∃ t, exec (.matrixScan raw) s = .next (ended s t) ∧ AcceptedAs s t p ∧ t.kbd.dimmed = false ∧
      t.kbd.idle = (if s.pwr.state = .run ∧ s.store.policy.idleTime ≠ 0 then
        some (1000 * max 5 (min 600 s.store.policy.idleTime)) else none)

/-- A press that closes a ghost rectangle is BLOCKED and reports nothing; a later scan without the rectangle accepts it. Under
suppression a press is LATENT, and a wake press with KEYBOARD in the wake set wakes from SLEEP and is held in SLEEP_ENTRY.
The release of a position that was not reported, and every release under suppression, reports nothing. -/
def Obligations.GhostedAndLatentPressesAreHeldBack : Prop :=
  ∀ (p : Nat) (raw : BitVec 128) (s : State), steady s raw p →
    (s.kbd.suppressed = false → taken s raw p true → (s.position p).disposition = .free → closesGhost s raw p →
      ∃ t, exec (.matrixScan raw) s = .next (refreshPins t) ∧ nowPressed s t p .blocked ∧ nothingReported s t ∧
        besideKeys t = besideKeys s) ∧
    (s.kbd.suppressed = false → raw.getLsbD p = true → (s.position p).pressed = true → (s.position p).disposition = .blocked →
      (closesGhost s raw p → ∃ t, exec (.matrixScan raw) s = .next (refreshPins t) ∧ nowPressed s t p .blocked ∧
        nothingReported s t ∧ besideKeys t = besideKeys s) ∧
      (¬ closesGhost s raw p → ∃ t, exec (.matrixScan raw) s = .next (ended s t) ∧ AcceptedAs s t p)) ∧
    (taken s raw p false → s.kbd.suppressed = true ∨ (s.position p).disposition ≠ .reported →
      ∃ t, exec (.matrixScan raw) s = .next (refreshPins t) ∧ t.position p = freeRecord ∧
        (∀ q, q < 128 → q ≠ p → t.position q = { s.position q with count := 0 }) ∧ nothingReported s t ∧
        besideKeys t = besideKeys s) ∧
    (s.kbd.suppressed = true → taken s raw p true → ∃ t, exec (.matrixScan raw) s = .next (ended s t) ∧
      nowPressed s t p .latent ∧ t.kbd.held = s.kbd.held ∧ t.kbd.queue = s.kbd.queue ∧ t.kbd.suppressed = true ∧
      ((s.pwr.state ≠ .sleep ∧ s.pwr.state ≠ .sleepEntry) ∨ ¬ wakePressed s raw p →
        nothingReported s t ∧ besideKeys t = besideKeys s) ∧
      (s.pwr.state = .sleepEntry → wakePressed s raw p → t.pwr = { s.pwr with heldWake := held s .keyboard }) ∧
      (s.pwr.state = .sleep → (s.pwr.rails.get .io).good = false → wakePressed s raw p →
        t.pwr = resumed s s.pwr .keyboard))

/-- A scan outside ACTIVE mode and a sense change outside IDLE_DETECT do nothing; a sense change starts a scan at once;
the quiet time ends in IDLE_DETECT, and the idle time dims the backlight. The model's choice: events that do not fit the
state (log entry 23). -/
def Obligations.ScannerTimersAct : Prop :=
  ∀ s : State,
    (∀ raw, s.kbd.mode ≠ .active → exec (.matrixScan raw) s = .next (refreshPins s)) ∧
    (∀ raw, s.kbd.mode ≠ .idleDetect → exec (.senseChange raw) s = .next (refreshPins s)) ∧
    (∀ raw, s.kbd.mode = .idleDetect →
      exec (.senseChange raw) s = exec (.matrixScan raw) { s with kbd := { s.kbd with mode := .active, quiet := 0 } }) ∧
    (s.kbd.mode = .active → s.kbd.positions = [] →
      exec .quietTimeExpiry s = .next (refreshPins { s with kbd := { s.kbd with mode := .idleDetect } })) ∧
    (s.kbd.mode ≠ .active ∨ s.kbd.positions ≠ [] → exec .quietTimeExpiry s = .next (refreshPins s)) ∧
    (s.kbd.idle.isSome = true →
      exec .backlightIdleExpiry s = .next (refreshPins { s with kbd := { s.kbd with dimmed := true, idle := none } })) ∧
    (s.kbd.idle = none → exec .backlightIdleExpiry s = .next (refreshPins s))

/-! ### Pack bus controller -/

/-- GET_PACK_RECORD and GET_PACK_FAULT refuse a value outside its set and an EMPTY slot, and answer the record and the
fault record; with the fresh flag a slot in use is read first, and the end of its third read gives the answer. The model's
choice: byte forms, the queue, an answer event with no finished fresh read in processing (log entries 11, 28 and 23). -/
def Obligations.PackRequestsReport : Prop :=
  (∀ (tag slot fresh : Byte) (s : State), s.link.processing = none →
    ((1 < slot.toNat ∨ 1 < fresh.toNat) →
      exec (.getPackRecord tag slot fresh) s = .next (answered s 0xC0 tag .badValue [])) ∧
    (∀ k, slot.toNat = slotIndex k → fresh.toNat ≤ 1 →
      ((s.pack k).state = .empty → exec (.getPackRecord tag slot fresh) s = .next (answered s 0xC0 tag .noData [])) ∧
      ((s.pack k).state ≠ .empty → (fresh = 0 ∨ ¬ freshReads (s.pack k)) → fitsRecord (s.pack k) →
        ∃ p, exec (.getPackRecord tag slot fresh) s = .next (answered s 0xC0 tag .ok p) ∧ isPackRecord (s.pack k) p) ∧
      (fresh = 1 → freshReads (s.pack k) → exec (.getPackRecord tag slot fresh) s = .next { s with
        link := { slot := { rkind := 0xC0, tag := tag, status := .pending, payload := [] },
                  processing := some (.freshRead tag k false) },
        bus := { s.bus with
          queue := s.bus.queue.filter fun e => !decide (e.slot = k ∧
            (e.item = .dyn .voltage ∨ e.item = .dyn .current ∨ e.item = .dyn .status)),
          fresh := some { slot := k, left := [.voltage, .current, .status] } } }))) ∧
  (∀ (tag : Byte) (k : Slot) (s : State), s.link.processing = some (.freshRead tag k true) → fitsRecord (s.pack k) →
    ∃ p, exec .freshReadAnswer s = .next (refreshPins (answered { s with link := { s.link with processing := none } }
      0xC0 tag .ok p)) ∧ isPackRecord (s.pack k) p) ∧
  (∀ s : State, (∀ tag k, s.link.processing ≠ some (.freshRead tag k true)) →
    exec .freshReadAnswer s = .next (refreshPins s)) ∧
  (∀ (tag : Byte) (k : Slot) (done : Bool) (left : List DynItem) (r : CurrentRead) (result : AttemptResult) (s : State),
    s.link.processing = some (.freshRead tag k done) → s.bus.fresh = some ⟨k, left⟩ → onTheWires s r → r.fresh = true →
    ((∃ bytes, result = .received bytes ∧ goodRead r.slot r.item bytes) ∨
      (2 ≤ r.attempts ∧ ∃ phase outcome, failsWith r.slot r.item result phase outcome)) →
    ∃ t, exec (.packAttemptEnd result) s = .next t ∧ t.link.slot = s.link.slot ∧
      t.link.processing = some (.freshRead tag k (if left = [] then true else done)) ∧
      t.bus.fresh = if left = [] then none else s.bus.fresh) ∧
  (∀ (tag slot : Byte) (s : State), s.link.processing = none →
    (1 < slot.toNat → exec (.getPackFault tag slot) s = .next (answered s 0xC1 tag .badValue [])) ∧
    (∀ k, slot.toNat = slotIndex k →
      ((s.pack k).state = .empty → exec (.getPackFault tag slot) s = .next (answered s 0xC1 tag .noData [])) ∧
      ((s.pack k).state ≠ .empty → exec (.getPackFault tag slot) s = .next (answered s 0xC1 tag .ok
        (le8 (s.pack k).state.index ++
          (match (s.pack k).fault with
            | none => List.replicate 9 0xFF
            | some f => le8 (slotIndex f.slot) ++
                (match f.item with | none => [16] | some (.dyn i) => le8 (dynIndex i) | some (.ident i) => le8 (9 + idIndex i)) ++
                le8 (phaseIndex f.phase) ++ le8 f.outcome.index ++ le8 f.attempts ++ le32 f.time) ++
          le8 (s.pack k).faultCount ++ le8 (s.pack k).failures)))))

/-- A debounced insertion makes an EMPTY slot IDENTIFYING with its first item due; a presence fall clears the record,
takes the slot off the bus, ends its fresh read and its calibration, reports PACK_CHANGED and is a PACK_CHANGE wake. The
model's choice: events that do not fit the state, the fresh read, the wake before the energy judgement, a read that stands between
two attempts at the fall, which is dropped at once (log entries 23, 28, 31 and 53). -/
def Obligations.PresenceChangesASlot : Prop :=
  ∀ (k : Slot) (s : State),
    ((s.pack k).state ≠ .empty → exec (.packInsertion k) s = .next (refreshPins s)) ∧
    ((s.pack k).state = .empty → exec (.packPresenceFall k) s = .next (refreshPins s)) ∧
    ((s.pack k).state = .empty → ∃ t, exec (.packInsertion k) s = .next t ∧ besideSlot s t k ∧
      flagless (t.pack k) = { PackSlot.cleared with state := .identifying } ∧ t.bus.current = s.bus.current ∧
      t.bus.fresh = s.bus.fresh ∧ t.link = s.link ∧
      ((∀ r, s.bus.current = some r → r.slot ≠ k ∨ r.discard = true) →
        ∃ e ∈ t.bus.queue, e.slot = k ∧ e.item = .ident .designCapacity)) ∧
    ((s.pack k).state ≠ .empty → ∃ t, exec (.packPresenceFall k) s = .next t ∧ besideSlot s t k ∧
      flagless (t.pack k) = PackSlot.cleared ∧ (∀ e ∈ t.bus.queue, e.slot ≠ k) ∧ (∀ f, t.bus.fresh = some f → f.slot ≠ k) ∧
      (∀ r, s.bus.current = some r → r.slot = k → r.onWires = true → t.bus.current = some { r with discard := true }) ∧
      (∀ r, s.bus.current = some r → r.slot = k → r.onWires = false → t.bus.current = none) ∧
      (∀ r, s.bus.current = some r → r.slot ≠ k → t.bus.current = some r) ∧
      (∀ tag done, s.link.processing = some (.freshRead tag k done) →
        t.link = { slot := { rkind := 0xC0, tag := tag, status := .noData, payload := [] }, processing := none }) ∧
      ((∀ tag done, s.link.processing ≠ some (.freshRead tag k done)) → t.link = s.link) ∧
      (s.chg.cal.slot = some k → (s.chg.cal.phase = .discharge ∨ s.chg.cal.phase = .rest ∨ s.chg.cal.phase = .charge) →
        t.chg.cal.phase = .ended ∧ t.chg.cal.outcome = .aborted ∧ t.chg.cal.cause = some .packRemoved) ∧
      reports s t .packChanged ∧ wakesOnPack s t)

/-- An item that is due, polled and not in service enters the queue with its due time, and so does the first identity item
at the end of a retry. A change of its period dates a waiting VOLTAGE, CURRENT or STATUS again: it waits at the new due time,
or leaves the queue when that lies ahead. A stale item's flag is cleared, which tests the end of DISCHARGE, and a change of the period judges every flag again by
its age, so that a longer period can set it. An attempt starts with the read in progress, else the fresh read's next, else the
queue's first. The model's choice: events that do not fit the state, what becomes of a waiting entry (log entries 23 and 45). -/
def Obligations.ReadsAreScheduled : Prop :=
  (∀ (k : Slot) (i : DynItem) (s : State),
    ((scheduleRuns (s.pack k) = false ∨ polled s k i = false ∨ inService s.bus k (.dyn i) = true) →
      exec (.pollItemDue k i) s = .next (refreshPins s)) ∧
    (scheduleRuns (s.pack k) = true → polled s k i = true → inService s.bus k (.dyn i) = false →
      ∃ before after, s.bus.queue = before ++ after ∧
        exec (.pollItemDue k i) s = .next (refreshPins { s with bus := { s.bus with queue :=
          before ++ ⟨k, .dyn i, min ((s.item k i).lastEnd + period s k i) s.now⟩ :: after } }) ∧
        (∀ x ∈ before, servedBefore ⟨k, .dyn i, min ((s.item k i).lastEnd + period s k i) s.now⟩ x = false) ∧
        (∀ x rest, after = x :: rest → servedBefore ⟨k, .dyn i, min ((s.item k i).lastEnd + period s k i) s.now⟩ x = true)) ∧
    ((s.item k i).valid = false → exec (.itemStale k i) s = .next (refreshPins s)) ∧
    ((s.item k i).valid = true → ∃ t, exec (.itemStale k i) s = .next t ∧ besideSlot s t k ∧
      flagless (t.pack k) = flagless (withEntry (s.pack k) i
        { s.item k i with age := max (s.item k i).age (3 * period s k i + 1) }) ∧
      FlagsFollow t ∧ (period t k i = period s k i → (t.item k i).valid = false) ∧
      (period s k i ≠ 1000 ∨ 30000 < (s.item k i).age ∨ (s.pwr.state = .run ∧ s.chg.adapter.present = true) →
        (t.item k i).valid = false) ∧
      (∃ v, dischargeTested k { s with packs := s.packs.set k (withEntry (s.pack k) i
          { s.item k i with age := max (s.item k i).age (3 * period s k i + 1), valid := false }) } v ∧
        t = ended s (packEvent v)) ∧
      t.bus.current = s.bus.current ∧ t.bus.fresh = s.bus.fresh ∧ t.link = s.link)) ∧
  (∀ (k : Slot) (s : State),
    ((s.pack k).retry = none → exec (.identifyRetryExpiry k) s = .next (refreshPins s)) ∧
    ((s.pack k).retry.isSome = true → ∃ queue,
      exec (.identifyRetryExpiry k) s = .next (refreshPins { s with
        packs := s.packs.set k { s.pack k with retry := none }, bus := { s.bus with queue := queue } }) ∧
      (inService s.bus k (.ident .designCapacity) = true → queue = s.bus.queue) ∧
      (inService s.bus k (.ident .designCapacity) = false →
        ∃ before after, s.bus.queue = before ++ after ∧ queue = before ++ ⟨k, .ident .designCapacity, s.now⟩ :: after))) ∧
  (∀ (k : Slot) (i : DynItem) (s : State), i ∈ [DynItem.voltage, .current, .status] →
    (∀ r, s.bus.current = some r → r.slot ≠ k ∨ r.item ≠ .dyn i) → (∀ f, s.bus.fresh = some f → f.slot ≠ k ∨ i ∉ f.left) →
    (s.bus.fast.get k = true ↔ period s k i = 10000) →
    ((∃ e ∈ s.bus.queue, e.slot = k ∧ e.item = .dyn i) →
      (s.now < (s.item k i).lastEnd + period s k i → ∀ e ∈ (refreshPeriods s).bus.queue, e.slot ≠ k ∨ e.item ≠ .dyn i) ∧
      ((s.item k i).lastEnd + period s k i ≤ s.now →
        ⟨k, .dyn i, (s.item k i).lastEnd + period s k i⟩ ∈ (refreshPeriods s).bus.queue ∧
        ∀ e ∈ (refreshPeriods s).bus.queue, e.slot = k → e.item = .dyn i → e.due = (s.item k i).lastEnd + period s k i)) ∧
    ((∀ e ∈ s.bus.queue, e.slot ≠ k ∨ e.item ≠ .dyn i) → scheduleRuns (s.pack k) = true →
      (s.item k i).lastEnd + period s k i ≤ s.now → ⟨k, .dyn i, s.now⟩ ∈ (refreshPeriods s).bus.queue)) ∧
  (∀ s : State, (∀ k, s.bus.fast.get k = true ↔ period s k .voltage = 1000) →
    ∀ e ∈ s.bus.queue, e ∈ (refreshPeriods s).bus.queue) ∧
  (∀ s : State, FlagsFollow (refreshPeriods s) ∧ ∀ k, flagless ((refreshPeriods s).pack k) = flagless (s.pack k)) ∧
  (∀ s : State,
    (∀ r, s.bus.current = some r → r.onWires = true → ∀ stuck, exec (.packAttemptStart stuck) s = .next (refreshPins s)) ∧
    (s.bus.current = none → s.bus.queue = [] → (∀ f, s.bus.fresh = some f → f.left = []) →
      ∀ stuck, exec (.packAttemptStart stuck) s = .next (refreshPins s)) ∧
    (∀ r bus, ((∃ q, s.bus.current = some q ∧ q.onWires = false ∧ r = { q with onWires := true } ∧ bus = s.bus) ∨
        (∃ k d rest, s.bus.current = none ∧ s.bus.fresh = some ⟨k, d :: rest⟩ ∧ r = ⟨k, .dyn d, 0, true, false, true⟩ ∧
          bus = { s.bus with fresh := some ⟨k, rest⟩ }) ∨
        (∃ e rest, s.bus.current = none ∧ (∀ f, s.bus.fresh = some f → f.left = []) ∧ s.bus.queue = e :: rest ∧
          r = ⟨e.slot, e.item, 0, true, false, false⟩ ∧ bus = { s.bus with queue := rest })) →
      exec (.packAttemptStart false) s = .next (refreshPins { s with bus := { bus with current := some r } }) ∧
      exec (.packAttemptStart true) s =
        exec (.packAttemptEnd (.timeout .address)) { s with bus := { bus with current := some r } }))

/-- Attempts: an outcome to be discarded only ends the read; arbitration lost runs it again; the first two counted
failures run it again; the third writes the fault record, raises the counts, makes COMM_LOST at the fifth read in a row,
or at once while identifying, and reports PACK_COMM_FAULT; the item is not due again at once, unless it is a request of a pack that
the read's end selects anew, which a settled selection that stands rules out; with no change of state or flag the energy status
stays. A slot that becomes COMM_LOST ends its running calibration ABORTED. A TIMEOUT recovers the bus. The
model's choice: the count of recoveries, an end with no attempt, no judgement of the energy status without a change (log entries 3,
23 and 27). -/
def Obligations.FailedAttemptsAreCounted : Prop :=
  ∀ (result : AttemptResult) (s : State),
    ((∀ r, s.bus.current = some r → r.onWires = false) → exec (.packAttemptEnd result) s = .next (refreshPins s)) ∧
    (∀ r, s.bus.current = some r → r.onWires = true → r.discard = true →
      exec (.packAttemptEnd result) s = .next (refreshPins { s with bus :=
        { s.bus with current := none, recoveries := s.bus.recoveries + recoveriesOf result } })) ∧
    (∀ r, onTheWires s r → exec (.packAttemptEnd .arbLost) s =
      .next (refreshPins { s with bus := { s.bus with current := some { r with onWires := false } } })) ∧
    (∀ r phase outcome, onTheWires s r → failsWith r.slot r.item result phase outcome →
      (r.attempts < 2 → exec (.packAttemptEnd result) s = .next (refreshPins { s with bus :=
        { s.bus with current := some { r with attempts := r.attempts + 1, onWires := false },
                     recoveries := s.bus.recoveries + recoveriesOf result } })) ∧
      (2 ≤ r.attempts → ∃ t, exec (.packAttemptEnd result) s = .next t ∧ besideSlot s t r.slot ∧ t.bus.current = none ∧
        flagless (t.pack r.slot) = flagless (afterFailedRead r.slot r.item phase outcome s.now (s.pack r.slot)) ∧
        t.bus.recoveries = s.bus.recoveries + recoveriesOf result ∧ (r.fresh = false → t.link = s.link) ∧
        (∀ i, r.item = .dyn i → notDueAgain s t r.slot i) ∧ FlagsFollow t ∧ reports s t .packCommFault ∧
        ((s.pack r.slot).state ≠ .commLost → (t.pack r.slot).state = .commLost → s.chg.cal.slot = some r.slot →
          calibrating s.chg.cal → t.chg.cal = endedCal s .aborted (some .packFault)) ∧
        ((t.pack r.slot).state = (s.pack r.slot).state → (∀ k i, (t.item k i).valid = (s.item k i).valid) →
          t.chg.energy = s.chg.energy)))

/-- An OK read of a dynamic item stores its value with age 0, clears the failures and returns a COMM_LOST slot, with
PACK_CHANGED, to ACTIVE or REJECTED; RSOC is stored at most 100, and a STATUS word sets the flags. Its next due time runs
from the end of the read: nothing that the return wakes or settles puts the item in the queue again, unless it is a request of a
pack that is selected anew, which a settled selection that stands rules out. The value acts in the charge
controller: VOLTAGE moves the session on to CONSTANT_CURRENT and CONSTANT_VOLTAGE, CURRENT counts toward termination, STATUS ends a
calibration, TEMPERATURE writes the band and the THERMAL suspension, the two requests count as read; then PACK_CHANGED, the end of
DISCHARGE, the settling and the energy status follow. The model's choice: the wake before the energy judgement, an abort before the
end of DISCHARGE, THERMAL at TEMPERATURE reads alone, a request read that was on the bus at the selection (log entries 31, 26
and 39). -/
def Obligations.DynamicReadsAreStored : Prop :=
  ∀ (r : CurrentRead) (i : DynItem) (lo hi : Byte) (w : BitVec 16) (s : State), onTheWires s r → r.item = .dyn i →
    w = (if i = .rsoc ∧ 100 < (hi ++ lo : BitVec 16).toNat then 100 else hi ++ lo) →
    ∃ t, exec (.packAttemptEnd (.received [lo, hi, crc8 (readHead r.slot r.item ++ [lo, hi])])) s = .next t ∧
      besideSlot s t r.slot ∧ t.bus.current = none ∧ t.bus.recoveries = s.bus.recoveries ∧
      flagless (t.pack r.slot) = flagless (withEntry
        { afterOkAttempt (s.pack r.slot) with status := if i = .status then w.setWidth 8 else (s.pack r.slot).status } i
        { value := some w, age := 0, valid := true, lastEnd := s.now }) ∧
      (t.item r.slot i).valid = true ∧ (r.fresh = false → t.link = s.link) ∧ notDueAgain s t r.slot i ∧
      (returnsFromLost (s.pack r.slot) = true → reports s t .packChanged) ∧
      ∃ v, dischargeTested r.slot
          (if returnsFromLost (s.pack r.slot) then packChanged r.slot (withValue r.slot i (s.pack r.slot).status w (withRead s r i w))
           else withValue r.slot i (s.pack r.slot).status w (withRead s r i w)) v ∧
        t = ended s (packEvent v)

/-- An OK read of an identity item keeps its value and goes on to the next; after CYCLE_COUNT the acceptance tests make the
slot ACTIVE or REJECTED with the first test failed, its schedule starts, and PACK_CHANGED is reported, a PACK_CHANGE wake.
The model's choice: the draft kept at acceptance, the wake before the energy judgement (log entries 7 and 31). -/
def Obligations.IdentificationRunsToAcceptance : Prop :=
  ∀ (r : CurrentRead) (i : IdItem) (bytes : List Byte) (d : Identity) (s : State), onTheWires s r → r.item = .ident i →
    goodRead r.slot r.item bytes → d = (s.pack r.slot).draft.withItem i bytes →
    (i ≠ .cycleCount → ∃ t, exec (.packAttemptEnd (.received bytes)) s = .next t ∧ besideSlot s t r.slot ∧
      t.bus.current = none ∧
      flagless (t.pack r.slot) = flagless { afterOkAttempt (s.pack r.slot) with draft := d, step := (s.pack r.slot).step + 1 } ∧
      (∀ j, nextIdentity i = some j → ∃ e ∈ t.bus.queue, e.slot = r.slot ∧ e.item = .ident j)) ∧
    (i = .cycleCount → ∃ t, exec (.packAttemptEnd (.received bytes)) s = .next t ∧ besideSlot s t r.slot ∧
      t.bus.current = none ∧
      flagless (t.pack r.slot) = flagless { afterOkAttempt (s.pack r.slot) with
        draft := d, step := (s.pack r.slot).step + 1, identity := some d, rejection := rejectedBy s.store.policy d,
        state := if rejectedBy s.store.policy d = .none then .active else .rejected,
        items := (s.pack r.slot).items.map fun _ e => { e with lastEnd := s.now } } ∧
      reports s t .packChanged ∧ wakesOnPack s t)

/-- A good alarm writes its word as alarm flags, status flags and STATUS value and reports PACK_ALARM when a flag is set;
a bad one is charged to its source alone; one that names no slot in use changes nothing. Its flags end a calibration ABORTED or its
DISCHARGE, and the settling and the energy status follow. The model's choice: STATUS's poll time, an abort before the end of
DISCHARGE (log entries 28 and 26). -/
def Obligations.AlarmsActOnTheirSource : Prop :=
  ∀ (k : Slot) (src : Byte) (s : State), src = (match k with | .int => 0x1A | .rear => 0x1B) →
    (∀ bytes : List Byte, (∀ j rest, (s.pack j).state ≠ .empty →
        bytes ≠ (match j with | .int => 0x1A | .rear => 0x1B) :: rest) →
      exec (.alarmMessage bytes) s = .next (refreshPins s) ∧ exec (.alarmClockTimeout bytes) s = .next (refreshPins s)) ∧
    ((s.pack k).state ≠ .empty →
      (∀ (c : Instr) (rest : List Byte),
        ((c = .alarmMessage (src :: rest) ∧ ∀ lo hi, rest ≠ [lo, hi, crc8 [0x20, src, lo, hi]]) ∨
          c = .alarmClockTimeout (src :: rest)) →
        exec c s = .next (refreshPins { s with packs := s.packs.set k { s.pack k with
          fault := some { slot := k, item := none, phase := .check, outcome := .checkFail, attempts := 1, time := time32 s.now },
          faultCount := min 255 ((s.pack k).faultCount + 1) } })) ∧
      (∀ lo hi : Byte, ∃ t, exec (.alarmMessage [src, lo, hi, crc8 [0x20, src, lo, hi]]) s = .next t ∧ besideSlot s t k ∧
        t.bus.current = s.bus.current ∧ t.bus.fresh = s.bus.fresh ∧ t.link = s.link ∧
        flagless (t.pack k) = flagless (withEntry { s.pack k with alarm := lo, status := lo } .status
          { value := some (hi ++ lo), age := 0, valid := true, lastEnd := (s.item k .status).lastEnd }) ∧
        (t.item k .status).valid = true ∧ (lo ≠ 0 → reports s t .packAlarm) ∧
        ∀ u : State, u = { s with packs := s.packs.set k (withEntry { s.pack k with alarm := lo, status := lo } .status
            { value := some (hi ++ lo), age := 0, valid := true, lastEnd := (s.item k .status).lastEnd }) } →
          ∃ v, dischargeTested k (withValue k .status (s.pack k).status (hi ++ lo)
              (if lo = 0 then u else latch .packAlarm (.packAlarm { int := decide (k = .int), rear := decide (k = .rear) } lo) u)) v ∧
            t = ended s (packEvent v)))

/-! ### Charge controller, budget unit, thermal controller -/

/-- GET_POWER_STATUS, GET_POSTURE, READ_EVENT_TABLE, GET_POWER_PATH, CALIBRATION STATUS, GET_BUDGET and GET_THERMAL answer their
records in every state, in the order of their fields, and change nothing but the slot. READ_EVENT_TABLE answers the summary
for selector 0, the entry whole for a kind's number, BADVALUE above 25. GET_THERMAL's fields take 82 bytes. A read
gives the frame of the slot from its first byte, with LEN at most 56 and LEN bytes of payload, then 0xFF. The model's choice: that
of an answer longer than 56 bytes the frame carries the first 56, byte forms, a requested current of 0x8000 or more in I_req (log
entries 9, 12 and 56). -/
def Obligations.RecordsAreReported : Prop :=
  (∀ (tag : Byte) (s : State), s.link.processing = none →
     exec (.getPowerStatus tag) s = .next (answered s 0x90 tag .ok
       (le8 s.pwr.state.index ++
         (match s.pwr.transition with | none => [0xFF, 0xFF, 0xFF] | some (x, ms) => le8 x.index ++ le16 ms) ++
         (match s.pwr.reboot with | none => [0xFF, 0xFF] | some .waiting => [0xFE, 0xFF] | some (.offTime ms) => le16 ms) ++
         le8 s.pwr.failureCount ++
         (match s.pwr.faultRecord with | none => [0xFF, 0xFF] | some (r, x) => le8 (railIndex r) ++ le8 x.index) ++
         le8 s.pwr.refusal.index ++ le8 s.pwr.wakeCause.index ++ le8 s.pwr.downCause.index ++
         ([Rail.mem, .io, .core, .periph, .disp].map fun r =>
           BitVec.ofNat 8 ((if (s.pwr.rails.get r).enabled then 1 else 0) + (if (s.pwr.rails.get r).good then 2 else 0) +
             16 * (s.pwr.rails.get r).outcome.index)) ++
         [BitVec.ofNat 8 (1 + (if s.pwr.wakeSet.lidOpen then 2 else 0) + (if s.pwr.wakeSet.keyboard then 4 else 0) +
             (if s.pwr.wakeSet.adapterChange then 8 else 0) + (if s.pwr.wakeSet.packChange then 16 else 0) +
             (if s.pwr.wakeSet.timer then 32 else 0))] ++
         (match s.pwr.wakeTimer with | none => [0, 0, 0, 0, 0] | some n => 1 :: le32 n) ++
         (match s.pwr.heldWake with | none => [0xFF] | some x => le8 x.index) ++ le8 s.store.policy.restore.index))) ∧
  (∀ (tag : Byte) (s : State), s.link.processing = none →
     exec (.getPosture tag) s = .next (answered s 0xA0 tag .ok
       (le8 s.post.posture.index ++ le8 s.post.mode.index ++ le8 s.post.lid.index ++ le8 s.post.fold.index ++
         le16 s.post.angle ++ le8 s.post.angleState.index ++
         (match s.post.candidate with | none => [0xFF] | some c => le8 c.index) ++ le16 s.post.dwell ++
         [if s.post.conflict.isSome then 1 else 0] ++ le16 s.post.returnElapsed))) ∧
  (∀ (tag selector : Byte) (s : State), s.link.processing = none →
    (selector = 0 → ∃ p, exec (.readEventTable tag selector) s = .next (answered s 0x84 tag .ok p) ∧ p.length = 20 ∧
      p.take 2 = [BitVec.ofNat 8 s.notice.floor, if s.pins.alert then 1 else 0] ∧
      (p.drop 2).take 5 = (match s.notice.critWindow with | none => [0, 0, 0, 0, 0] | some ms => 1 :: le32 ms) ∧
      (p.drop 7).take 5 = (match s.notice.tripWindow with | none => [0, 0, 0, 0, 0] | some ms => 1 :: le32 ms) ∧
      (∀ k : Kind, (field p 12 4).testBit (k.number - 1) = (s.entry k).pending ∧
        (field p 16 4).testBit (k.number - 1) = (s.entry k).mask)) ∧
    (∀ k : Kind, selector.toNat = k.number → exec (.readEventTable tag selector) s = .next (answered s 0x84 tag .ok
      ([selector, if k.occurrence then 0 else 1, if (s.entry k).pending then 1 else 0, if (s.entry k).mask then 1 else 0,
        BitVec.ofNat 8 (s.entry k).level, BitVec.ofNat 8 (s.entry k).count] ++ le32 (s.entry k).latchTime ++
        entryPayloadBytes k (s.entry k).payload))) ∧
    (25 < selector.toNat → exec (.readEventTable tag selector) s = .next (answered s 0x84 tag .badValue []))) ∧
  (∀ (tag slot : Byte) (s : State), s.link.processing = none →
    exec (.getPowerPath tag) s = .next (answered s 0xC8 tag .ok
      (flag8 s.chg.adapter.present ++ le8 s.chg.adapter.cls.index ++ le16 (watts s) ++ le16 s.chg.adapter.vin ++
        le16 s.chg.adapter.iin ++ flag8 s.chg.adapter.bypass ++ le8 (supplyIndex s.chg.supply) ++
        le8 (dischargeIndex s.chg.discharge) ++ le8 (selectedIndex s.chg.selected) ++ le8 (slotIndex s.chg.switchAt) ++
        (match s.chg.switchOver, s.chg.selected with | some _, some k => le8 (slotIndex k) | _, _ => [0xFF]) ++
        setByte s.chg.hold.noAdapter s.chg.hold.terminate s.chg.hold.temp s.chg.hold.data s.chg.hold.budget ++
        le32 (s.chg.sessionMs / 1000) ++ le16 (s.chg.prechargeMs / 1000) ++
        ([Slot.int, .rear].flatMap fun k =>
          le8 (s.chg.packs.get k).phase.index ++ le8 (s.chg.packs.get k).fault.index ++
            (match (s.chg.packs.get k).doneRsoc with | none => [0xFF] | some r => le8 r) ++
            le8 (s.chg.packs.get k).band.index) ++
        le16 s.chg.iSet ++ le16 s.chg.vSet ++ le16 (iReq s) ++ le8 s.chg.stop ++ le8 s.chg.start ++ le8 s.chg.energy.index ++
        (match combined s with | none => [0xFF] | some c => le8 c) ++
        flag8 (decide (s.chg.cal.phase = .discharge ∨ s.chg.cal.phase = .rest ∨ s.chg.cal.phase = .charge)))) ∧
    exec (.calibrationStatusRead tag slot) s = .next (answered s 0xCA tag .ok
      (le8 s.chg.cal.phase.index ++ (match s.chg.cal.slot with | none => [0xFF] | some k => le8 (slotIndex k)) ++
        setByte s.chg.cal.suspension.host s.chg.cal.suspension.adapterLost s.chg.cal.suspension.platform
          s.chg.cal.suspension.thermal false ++
        le32 (s.chg.cal.dischargeMs / 1000) ++ le16 (s.chg.cal.restMs / 60000) ++
        (match s.chg.cal.capacityBefore with | none => [0xFF, 0xFF] | some n => le16 n) ++ le8 s.chg.cal.outcome.index ++
        (match s.chg.cal.cause with | none => [0xFF] | some c => le8 c.index) ++
        (match s.chg.cal.endPhase with | none => [0xFF] | some p => le8 (p.index - 1)) ++
        (match s.chg.cal.capacityAfter with | none => [0xFF, 0xFF] | some n => le16 n))) ∧
    exec (.getBudget tag) s = .next (answered s 0xD0 tag .ok
      (le32 s.bud.a ++ le16 s.bud.d ++ le16 s.bud.h ++ le16 s.bud.b ++ le16 s.bud.heatShare ++ le16 s.bud.q ++
        le16 s.bud.pChg ++ le16 s.bud.iChg ++ le16 s.bud.pEff ++ le32 s.bud.pProc ++ le32 s.bud.r ++
        [if s.bud.mode = .chargeFirst then 0 else 1, if s.bud.boost then 0 else 1, if s.bud.short then 1 else 0] ++
        le8 s.bud.overload ++ le32 s.bud.backoff ++ le8 s.bud.limiting.index)) ∧
    (∃ fields : List Byte, fields =
      ([Sensor.soc, .charger, .deck, .base].flatMap fun k =>
          le8 (s.sensor k).state.index ++ le16 (s.sensor k).code ++ tempField (s.sensor k).temp ++ flag8 (s.sensor k).warn ++
            flag8 (s.sensor k).trip ++ flag8 (s.sensor k).hard ++
            le16 (BitVec.ofInt 16 (limitOf s.store.policy s.post.posture k)).toNat ++
            le16 (BitVec.ofInt 16 (warnOf s.store.policy s.post.posture k)).toNat ++ le16 (s.sensor k).hs) ++
        le16 s.thr.h ++ le16 s.thr.hMaxEff ++ le8 s.thr.limiting.index ++ le8 s.thr.mode.index ++
        ([Fan.a, .b].flatMap fun f =>
          (match (s.thr.fans.get f).curve with | none => [0xFF] | some c => le8 c) ++ le8 (s.thr.fans.get f).target ++
            le8 (s.thr.fans.get f).commanded ++ le8 (s.thr.fans.get f).manual ++
            le8 (max 20 (min 100 (s.store.policy.safeFloor.get f))) ++ le16 (s.thr.fans.get f).rpm ++
            flag8 (s.thr.fans.get f).stalled ++ le8 (s.thr.fans.get f).stallCount ++
            le8 (s.thr.fans.get f).recoveryCount) ∧
      fields.length = 82 ∧ exec (.getThermal tag) s = .next (answered s 0xD8 tag .ok fields))) ∧
  (∀ (s : State) (n : Nat), linkRead s n = (([s.link.slot.rkind, s.link.slot.tag, s.link.slot.status.code,
    BitVec.ofNat 8 (min 56 s.link.slot.payload.length)] ++ s.link.slot.payload.take 56) ++ List.replicate n 0xFF).take n)

/-- SET_CHARGE_LIMITS brings the stop threshold into 50 to 100 and the start threshold into 40 to stop less 5, echoes them,
clears the done RSOC of both packs and chooses again; the hotkey toggles between 100/95 and the longevity pair. A
selected pack at or above the new stop threshold enters DONE and loses the selection. The model's choice: DONE comes first where
the same limits make a higher pack eligible (log entry 58). -/
def Obligations.ChargeLimitsAreApplied : Prop :=
  (∀ (tag stop start : Byte) (s : State), s.link.processing = none →
    exec (.setChargeLimits tag stop start) s = .next (ended s (answered
      (settleCharge (withLimits s (stopInRange stop.toNat) (startInRange (stopInRange stop.toNat) start.toNat))) 0xC9 tag
      (statusFor (stopInRange stop.toNat ≠ stop.toNat ∨ startInRange (stopInRange stop.toNat) start.toNat ≠ start.toNat))
      [BitVec.ofNat 8 (stopInRange stop.toNat), BitVec.ofNat 8 (startInRange (stopInRange stop.toNat) start.toNat)]))) ∧
  (∀ s : State,
    (s.chg.stop = 100 ∧ s.chg.start = 95 → toggleLimits s = settleCharge (withLimits s
      (stopInRange s.store.policy.longevityStop)
      (startInRange (stopInRange s.store.policy.longevityStop) s.store.policy.longevityStart))) ∧
    (¬ (s.chg.stop = 100 ∧ s.chg.start = 95) → toggleLimits s = settleCharge (withLimits s 100 95))) ∧
  (∀ (s : State) (stop start : Nat), (settleCharge (withLimits s stop start)).chg.stop = stop ∧
    (settleCharge (withLimits s stop start)).chg.start = start ∧
    besideCharge (settleCharge (withLimits s stop start)) = besideCharge s) ∧
  (∀ (s : State) (k : Slot) (stop start r : Nat), start < stop → s.chg.selected = some k → (s.pack k).state = .active →
    s.chg.switchOver = none → sessionRuns (s.chg.packs.get k).phase → s.chg.cal.slot ≠ some k →
    validRsoc s k r → stop ≤ r →
    ((settleCharge (withLimits s stop start)).chg.packs.get k).phase = .done ∧
    ((settleCharge (withLimits s stop start)).chg.packs.get k).doneRsoc = some r ∧
    (settleCharge (withLimits s stop start)).chg.selected ≠ some k)

/-- CALIBRATION: START is tested for its values, for a running cycle and for the adapter, slot and phase, then writes a
fresh record in DISCHARGE, suspended outside RUN; SUSPEND, RESUME and ABORT change the record where the phase allows it.
Whatever is answered, only the charge controller and the pack bus change with it. The model's choice: the operation byte,
RESUME (log entries 10 and 26). -/
def Obligations.CalibrationRequestsAreAnswered : Prop :=
  ∀ (tag slot : Byte) (s : State), s.link.processing = none →
    (∀ operation : Byte, (4 < operation.toNat ∨ 1 < slot.toNat) →
      exec (.calibrationStart tag operation slot) s = .next (refreshPins (answered s 0xCA tag .badValue []))) ∧
    (∀ k, slot.toNat = slotIndex k →
      (calibrating s.chg.cal →
        exec (.calibrationStart tag 0 slot) s = .next (refreshPins (answered s 0xCA tag .busy []))) ∧
      (¬ calibrating s.chg.cal →
        (s.chg.adapter.present = false ∨ (s.pack k).state ≠ .active ∨ (s.chg.packs.get k).phase = .fault) →
        exec (.calibrationStart tag 0 slot) s = .next (refreshPins (answered s 0xCA tag .badState []))) ∧
      (¬ calibrating s.chg.cal → s.chg.adapter.present = true → (s.pack k).state = .active →
        (s.chg.packs.get k).phase ≠ .fault →
        exec (.calibrationStart tag 0 slot) s = .next (ended s (answered (settleCharge (withCal s
          { phase := .discharge, slot := some k, suspension := { unsuspended with platform := decide (s.pwr.state ≠ .run) },
            dischargeMs := 0, restMs := 0, capacityBefore := fullCapacity s k, outcome := .none, cause := none,
            endPhase := none, capacityAfter := none })) 0xCA tag .ok [])))) ∧
    ((s.chg.cal.phase = .discharge ∨ s.chg.cal.phase = .rest) →
      exec (.calibrationSuspend tag slot) s = .next (ended s (answered (settleCharge (withCal s
        { s.chg.cal with suspension := { s.chg.cal.suspension with host := true } })) 0xCA tag .ok []))) ∧
    (¬ (s.chg.cal.phase = .discharge ∨ s.chg.cal.phase = .rest) →
      exec (.calibrationSuspend tag slot) s = .next (refreshPins (answered s 0xCA tag .badState []))) ∧
    (s.chg.cal.suspension.host = true →
      exec (.calibrationResume tag slot) s = .next (ended s (answered (settleCharge (withCal s
        { s.chg.cal with suspension := { s.chg.cal.suspension with host := false } })) 0xCA tag .ok []))) ∧
    (s.chg.cal.suspension.host = false →
      exec (.calibrationResume tag slot) s = .next (refreshPins (answered s 0xCA tag .badState []))) ∧
    (calibrating s.chg.cal →
      exec (.calibrationAbort tag slot) s = .next (ended s (answered (settleCharge (withCal s
        (endedCal s .aborted (some .host)))) 0xCA tag .ok []))) ∧
    (¬ calibrating s.chg.cal →
      exec (.calibrationAbort tag slot) s = .next (refreshPins (answered s 0xCA tag .badState []))) ∧
    (∀ r : CalRecord, besideCharge (settleCharge (withCal s r)) = besideCharge s ∧
      ((settleCharge (withCal s r)).entry .calibrationStatus).mask = (s.entry .calibrationStatus).mask)

/-- An attach makes the adapter PRESENT with class PENDING, arms the low crossing, and is the sequencer's attach; the
class read writes the first band that holds the code and reports it; samples count while PRESENT; a removal clears the
record, frees the packs in FAULT, suspends a DISCHARGE, leaves the platform on a pack that the bypass carried it from, and
takes the charge current to 0. Both are ADAPTER_CHANGE wakes. The model's choice: a band's ends, events that do not fit the
state, order, how long the pack carries the platform (log entries 22, 23, 31 and 37). -/
def Obligations.AdapterEventsAreRecorded : Prop :=
  (∀ s : State, s.chg.adapter.present = true → exec .adapterAttach s = .next (refreshPins s)) ∧
  (∀ s : State, s.chg.adapter.present = false → (s.pwr.state = .off → (s.pwr.rails.get .mem).good = false) →
    (s.pwr.state = .sleep → (s.pwr.rails.get .io).good = false) →
    ∃ t, exec .adapterAttach s = .next t ∧ beside t = beside s ∧ t.chg.adapter.present = true ∧ t.chg.adapter.cls = .pending ∧
      t.chg.adapter.vin = s.chg.adapter.vin ∧ t.chg.adapter.iin = s.chg.adapter.iin ∧ t.chg.classWait = some 100 ∧
      t.chg.lowArmed = true ∧ t.chg.energy = (if s.chg.judging then .normal else s.chg.energy) ∧
      (t.chg.cal.phase = .discharge → t.chg.cal.suspension.adapterLost = false) ∧
      (s.pwr.state = .faultOff → t.pwr = { s.pwr with failureCount := 0 }) ∧
      (s.pwr.state ≠ .faultOff → noWake s → (s.pwr.state = .off → s.store.policy.powerOnAtAdapter = false) → t.pwr = s.pwr) ∧
      (s.pwr.state = .off → s.store.policy.powerOnAtAdapter = true → hardCrossing s →
        t.pwr = { s.pwr with refusal := .thermalHard, refusalDisplay := some 3000 }) ∧
      (s.pwr.state = .off → s.store.policy.powerOnAtAdapter = true → ¬ hardCrossing s →
        t.pwr = { railAfter s.pwr .mem { s.pwr.rails.get .mem with enabled := true } with
                  state := .powerUp, wakeCause := .adapterAttach, refusal := .none, reboot := none,
                  refusalDisplay := none, wakeExpired := false,
                  upWait := some (.mem, max 1 (min 100 s.store.policy.upTimeout)) }) ∧
      t.chg.calCarries = false ∧
      (s.pwr.wakeSet.adapterChange = true → (s.pwr.state = .sleep → t.pwr = resumed s s.pwr .adapterChange) ∧
        (s.pwr.state = .sleepEntry → t.pwr = { s.pwr with heldWake := held s .adapterChange }))) ∧
  (∀ (code : BitVec 12) (s : State),
    (s.chg.classWait = none → exec (.adapterClassRead code) s = .next (refreshPins s)) ∧
    (∀ c, s.chg.classWait.isSome = true → isClass s code.toNat c →
      exec (.adapterClassRead code) s = .next (refreshPins (latch .adapterChanged (.adapterChanged true c)
        (withAdapter s { s.chg.adapter with cls := c } none))))) ∧
  (∀ (vin : BitVec 16) (iin : BitVec 15) (s : State),
    (s.chg.adapter.present = false → exec (.adapterSample vin iin) s = .next (refreshPins s)) ∧
    (s.chg.adapter.present = true → exec (.adapterSample vin iin) s = .next (refreshPins
      (withAdapter s { s.chg.adapter with vin := vin.toNat, iin := iin.toNat } s.chg.classWait)))) ∧
  (∀ s : State, s.chg.adapter.present = false → exec .adapterRemoval s = .next (refreshPins s)) ∧
  (∀ s : State, s.chg.adapter.present = true → ∃ t, exec .adapterRemoval s = .next t ∧ t.chg.adapter.present = false ∧
    t.chg.adapter.cls = .none ∧ t.chg.adapter.vin = 0 ∧ t.chg.adapter.iin = 0 ∧ t.chg.classWait = none ∧ t.chg.iSet = 0 ∧
    (∀ k, (s.chg.packs.get k).phase = .fault →
      (t.chg.packs.get k).phase ≠ .fault ∧ (t.chg.packs.get k).fault = .none) ∧
    (s.chg.cal.phase = .discharge → t.chg.cal.phase = .discharge ∧ t.chg.cal.suspension.adapterLost = true ∧
      t.chg.adapter.bypass = false) ∧
    (∀ k, s.chg.adapter.bypass = true → s.chg.cal.phase = .discharge → s.chg.cal.slot = some k →
      (s.pack k).state = .active → (s.pack k).status.getLsbD 3 = false →
      t.chg.supply = .pack k ∧ t.chg.discharge = some k) ∧
    (s.pwr.wakeSet.adapterChange = true →
      (s.pwr.state = .sleepEntry → t.pwr.state = .sleepEntry → t.pwr.heldWake = held s .adapterChange ∨
        (t.chg.energy = .critical ∧ t.pwr.heldWake = held s .criticalEnergy)) ∧
      (s.pwr.state = .sleep → (s.pwr.rails.get .io).good = false → t.chg.energy = .criticalHard ∨
        (t.pwr.state = .resume ∧ (t.pwr.wakeCause = .adapterChange ∨
          (t.chg.energy = .critical ∧ t.pwr.wakeCause = .criticalEnergy))))) ∧
    reports s t .adapterChanged ∧ (s.pwr.state = .off → t.pwr = s.pwr) ∧ t.post = s.post ∧ t.link = s.link ∧ t.now = s.now)

/-- The timers of the charge controller, each while the thing it times is in progress and with no effect else: the
switch-over starts the session, the session's and the precharge time send the pack to FAULT, the retry clears BUDGET,
DISCHARGE's limit fails the cycle, REST ends in CHARGE, and the first judgement of the energy status is made. The model's
choice: expiries of timers that do not run, a session's start stops the retry (log entries 23 and 54). -/
def Obligations.ChargeTimersAct : Prop :=
  ∀ s : State,
    (s.chg.switchOver = none ∨ s.chg.selected = none → exec .switchOverExpiry s = .next (refreshPins s)) ∧
    (∀ k ms, s.chg.switchOver = some ms → s.chg.selected = some k → (s.chg.packs.get k).phase = .idle →
      exec .switchOverExpiry s = .next (ended s (settleCharge (sessionStarted s k)))) ∧
    (∀ c, c = .sessionTimerExpiry ∨ c = .prechargeTimeout →
      (∀ k cause, s.chg.selected = some k → ¬ endsInFault c (s.chg.packs.get k).phase cause) →
      exec c s = .next (refreshPins s)) ∧
    (∀ c k cause, s.chg.selected = some k → endsInFault c (s.chg.packs.get k).phase cause →
      ∃ t, exec c s = .next (ended s t) ∧ besideCharge t = besideCharge s ∧ t.link = s.link ∧
        (t.chg.packs.get k).phase = .fault ∧
        (t.chg.packs.get k).fault = cause ∧ t.chg.selected ≠ some k ∧ t.chg.iSet = 0 ∧
        (t.entry .chargeState).pending = true ∧
        (s.chg.cal.phase = .charge → s.chg.cal.slot = some k →
          t.chg.cal.phase = .ended ∧ t.chg.cal.outcome = .failed ∧ t.chg.cal.cause = some .chargeFault)) ∧
    (s.chg.budgetRetry = none → exec .budgetRetryExpiry s = .next (refreshPins s)) ∧
    (s.chg.budgetRetry.isSome = true → exec .budgetRetryExpiry s = .next (ended s (settleCharge
      { s with chg := { s.chg with budgetRetry := none, hold := { s.chg.hold with budget := false } } }))) ∧
    (¬ (s.chg.cal.phase = .discharge ∧ s.chg.cal.suspension = unsuspended) →
      exec .dischargeTimeout s = .next (refreshPins s)) ∧
    (s.chg.cal.phase = .discharge → s.chg.cal.suspension = unsuspended →
      exec .dischargeTimeout s =
        .next (ended s (settleCharge (withCal s (endedCal s .failed (some .dischargeTimeout)))))) ∧
    (¬ (s.chg.cal.phase = .rest ∧ s.chg.cal.suspension = unsuspended) → exec .restExpiry s = .next (refreshPins s)) ∧
    (s.chg.cal.phase = .rest → s.chg.cal.suspension = unsuspended → exec .restExpiry s =
      .next (ended s (settleCharge (withCal s { s.chg.cal with phase := .charge, restMs := 0 })))) ∧
    (s.chg.judging = true → exec .energyFirstJudgement s = .next (refreshPins s)) ∧
    (s.chg.judging = false →
      exec .energyFirstJudgement s = .next (ended s (judgeEnergy { s with chg := { s.chg with judging := true } })))

/-- The energy status: a command that changes a valid flag with the adapter away is followed by a judgement. A judgement writes
the level of R121. A change from NORMAL with the crossing armed latches LOW_ENERGY and disarms it; a critical level latches
CRITICAL_ENERGY and starts its window in RUN, and its end clears both; CRITICAL resumes a platform in SLEEP and is held in
SLEEP_ENTRY, CRITICAL_HARD forces the platform down. The model's choice: one judgement a command, the crossing armed by
every judgement at low plus 3 (log entries 27 and 50). -/
def Obligations.EnergyStatusIsActedOn : Prop :=
  (∀ s t : State,
    (t.chg.adapter.present = true ∨ (∀ k i, (t.item k i).valid = (s.item k i).valid) → ended s t = refreshPins t) ∧
    (t.chg.adapter.present = false → (∃ k i, (t.item k i).valid ≠ (s.item k i).valid) →
      ended s t = refreshPins (judgeEnergy t))) ∧
  (∀ s : State, s.chg.judging = false → judgeEnergy s = s) ∧
  (∀ s t : State, s.chg.judging = true → t = judgeEnergy s →
    t.chg.energy = energyOf s ∧ t.post = s.post ∧ t.link = s.link ∧ t.now = s.now ∧
    (energyOf s = s.chg.energy → t = { s with chg := { s.chg with lowArmed := armedNow s } }) ∧
    (energyOf s ≠ s.chg.energy →
      t.chg.lowArmed = (armedNow s && decide (s.chg.energy ≠ .normal)) ∧
      (s.chg.energy = .normal → armedNow s = true → reports s t .lowEnergy) ∧
      (s.chg.energy ≠ .normal ∨ armedNow s = false →
        (t.entry .lowEnergy).pending = true → (s.entry .lowEnergy).pending = true) ∧
      (isCrit (energyOf s) → (t.entry .criticalEnergy).pending = true ∧ ((t.pwr.state = .off → s.pwr.state = .off) →
        (t.entry .criticalEnergy).payload = .criticalEnergy (energyOf s) (combined s))) ∧
      (¬ isCrit (energyOf s) → t.pwr = s.pwr ∧
        (isCrit s.chg.energy → (t.entry .criticalEnergy).pending = false ∧ t.notice.critWindow = none) ∧
        (¬ isCrit s.chg.energy → t.entry .criticalEnergy = s.entry .criticalEnergy ∧
          t.notice.critWindow = s.notice.critWindow)) ∧
      (energyOf s = .critical →
        (s.pwr.state = .run → windowStarts (¬ isCrit s.chg.energy) s.store.policy.critWindow s.notice.critWindow
          t.notice.critWindow) ∧
        (s.pwr.state = .sleep → (s.pwr.rails.get .io).good = false → t.pwr = resumed s s.pwr .criticalEnergy) ∧
        (s.pwr.state = .sleepEntry → t.pwr = { s.pwr with heldWake := held s .criticalEnergy }) ∧
        (s.pwr.state ≠ .sleep → s.pwr.state ≠ .sleepEntry → t.pwr = s.pwr)) ∧
      (energyOf s = .criticalHard → ForcedDown s t .criticalHard)))

/-- The charge controller's settling leaves the current set-point at the smaller of I_chg and I_req in steps, a selected slot
ACTIVE, and no session beside a hold cause. The decision in QUALIFY writes the voltage set-point and starts PRECHARGE or
CONSTANT_CURRENT; a later change of the charge voltage writes it again. The discharge pack is the choice of the two passes and the
supply follows, with SOURCE_CHANGED at each change; the selected pack is the choice of R104, and a change of it ends the one session
and starts the other, or its switch-over. A session in which a condition of R108 holds enters DONE, with its done RSOC, and loses
the selection; a changed flag tests the end of DISCHARGE. The model's choice: the last settling of a step, a charge voltage below
4,000 mV, a change before the decision, the pack that carries the platform, the budget retry at a change of the selection, the done
RSOC without a valid RSOC, a requested current of 0x8000 or more, I_req below 128 as a condition, DONE before the hold causes and
before the choice of the pack (log entries 19, 17, 38, 37, 54, 55, 56, 25 and 58). -/
def Obligations.ChargerFollowsItsSession : Prop :=
  (∀ s t : State, t = settleCharge s →
    t.chg.iSet = setPoint t ∧ FlagsFollow t ∧ besideCharge t = besideCharge s ∧ t.link = s.link ∧
    ∀ k, t.chg.selected = some k → (t.pack k).state = .active ∧
      (runsUnheld (t.chg.packs.get k).phase → ¬ holdCondition t k) ∧
      ((t.chg.packs.get k).phase = .hold ∨ (t.chg.packs.get k).phase = .qualify ∨ t.chg.switchOver.isSome = true →
        t.chg.iSet = 0)) ∧
  (∀ (s : State) (k : Slot) (volts v : Nat), (s.chg.packs.get k).phase = .qualify →
    s.chg.hold = { noAdapter := false, terminate := false, temp := false, data := false, budget := false } →
    s.chg.freshCurrent = true → s.chg.freshVoltage = true → (s.item k .voltage).valid = true →
    (s.item k .requestedCurrent).valid = true → (s.item k .requestedVoltage).valid = true →
    chargeVolts s k = some volts → lastValue s k .voltage = some v →
    ((decideQualify k s).chg.packs.get k).phase = (if v < 3000 * cells s k then .precharge else .constantCurrent) ∧
    (decideQualify k s).chg.chargeVoltage = some volts ∧ (4000 ≤ volts → (decideQualify k s).chg.vSet = volts / 16 * 16) ∧
    ((decideQualify k s).entry .chargeState).pending = true) ∧
  (∀ (s : State) (k : Slot), s.chg.freshCurrent = false ∨ s.chg.freshVoltage = false ∨
    (s.item k .voltage).valid = false ∨ (s.item k .requestedCurrent).valid = false ∨
    (s.item k .requestedVoltage).valid = false → decideQualify k s = s) ∧
  (∀ (s : State) (k : Slot) (old volts : Nat), s.chg.selected = some k → s.chg.chargeVoltage = some old →
    chargeVolts s k = some volts →
    (volts = old → followChargeVoltage s = s) ∧
    (volts ≠ old → (followChargeVoltage s).chg.chargeVoltage = some volts ∧
      (4000 ≤ volts → (followChargeVoltage s).chg.vSet = volts / 16 * 16))) ∧
  (∀ s : State, s.chg.chargeVoltage = none → followChargeVoltage s = s) ∧
  (∀ (s : State) (d : Option Slot) (x : Supply), isDischargePack s d → isSupply s d x →
    (s.chg.supply = x ∧ s.chg.discharge = d → chooseSource s = s) ∧
    (¬ (s.chg.supply = x ∧ s.chg.discharge = d) → chooseSource s = latch .sourceChanged (.sourceChanged x d)
      { s with chg := { s.chg with supply := x, discharge := d } })) ∧
  (∀ s t : State, bypassFollows s → t = settleCharge s →
    isDischargePack t t.chg.discharge ∧ isSupply t t.chg.discharge t.chg.supply ∧
    (t.chg.supply ≠ s.chg.supply ∨ t.chg.discharge ≠ s.chg.discharge → (t.entry .sourceChanged).pending = true ∧
      (t.entry .sourceChanged).payload = .sourceChanged t.chg.supply t.chg.discharge)) ∧
  (∀ (s : State) (x : Option Slot), isChosenPack s x →
    (s.chg.selected = x → choosePack s = s) ∧ (s.chg.selected ≠ x → SelectionMoved s (choosePack s) x)) ∧
  (∀ s t : State, bypassFollows s → t = settleCharge s → isChosenPack t t.chg.selected) ∧
  (∀ (s t : State) (k : Slot), t = settleCharge s → s.chg.selected = some k → (s.pack k).state = .active →
    s.chg.switchOver = none → sessionRuns (s.chg.packs.get k).phase →
    apartFromCycle s → chargeEnds s k →
    (t.chg.packs.get k).phase = .done ∧
    (t.chg.packs.get k).doneRsoc = (match (s.item k .rsoc).value with | none => none | some w => some w.toNat) ∧
    t.chg.selected ≠ some k ∧ (t.entry .chargeState).pending = true ∧
    (s.chg.cal.slot = some k → s.chg.cal.phase = .charge → t.chg.cal = endedCal s .complete none)) ∧
  (∀ (s : State) (k : Slot), s.chg.selected = some k → sessionRuns (s.chg.packs.get k).phase → ¬ chargeEnds s k →
    ((sessionPass s).chg.packs.get k).phase ≠ .done) ∧
  (∀ (s t : State) (k : Slot), t = settleCharge s → validFlags (settleOnce s) k ≠ validFlags s k →
    dischargeOver (settleOnce s) k → t.chg.cal.phase ≠ .discharge ∧ t.chg.adapter.bypass = false)

/-- SET_BUDGET_MODE and SET_FAN_MODE refuse a value outside its set; else they write the settings and answer them. A
MANUAL duty is taken into range and stored, and the duty that applies is echoed; H follows the fan mode at once, and the
fans wait for the next fan control step. The model's choice: byte forms (log entry 13). -/
def Obligations.BudgetAndFanModesAreSet : Prop :=
  (∀ (tag mode boost : Byte) (s : State), s.link.processing = none →
    ((1 < mode.toNat ∨ 1 < boost.toNat) →
      exec (.setBudgetMode tag mode boost) s = .next (refreshPins (answered s 0xD1 tag .badValue []))) ∧
    (mode.toNat ≤ 1 → boost.toNat ≤ 1 →
      exec (.setBudgetMode tag mode boost) s = .next (refreshPins (answered
        { s with bud := { s.bud with mode := if mode = 0 then .chargeFirst else .performanceFirst,
                                     boost := decide (boost = 0) } } 0xD1 tag .ok [mode, boost])))) ∧
  (∀ (tag mode dutyA dutyB : Byte) (s : State), s.link.processing = none →
    (3 < mode.toNat →
      exec (.setFanMode tag mode dutyA dutyB) s = .next (refreshPins (answered s 0xD9 tag .badValue []))) ∧
    (∀ m, mode.toNat = m.index → m ≠ .manual → ∃ t, exec (.setFanMode tag mode dutyA dutyB) s = .next t ∧
      t = { s with thr := t.thr, pins := t.pins, link := { slot := { rkind := 0xD9, tag := tag, status := .ok, payload :=
        [mode, BitVec.ofNat 8 s.thr.fans.a.manual, BitVec.ofNat 8 s.thr.fans.b.manual] }, processing := none } } ∧
      t.thr.mode = m ∧ t.thr.fans = s.thr.fans ∧ t.thr.holdOver = s.thr.holdOver ∧
      (∀ k, { t.sensor k with hs := 0 } = { s.sensor k with hs := 0 }) ∧ HeatFollows t) ∧
    (mode = 3 → ∀ a b, applies s .a dutyA.toNat a → applies s .b dutyB.toNat b →
      ∃ t, exec (.setFanMode tag mode dutyA dutyB) s = .next t ∧
      t = { s with thr := t.thr, pins := t.pins, link := { slot :=
        { rkind := 0xD9, tag := tag, status := statusFor (a ≠ dutyA.toNat ∨ b ≠ dutyB.toNat),
          payload := [3, BitVec.ofNat 8 a, BitVec.ofNat 8 b] }, processing := none } } ∧
      t.thr.mode = .manual ∧ t.thr.fans.a = { s.thr.fans.a with manual := takenDuty dutyA.toNat } ∧
      t.thr.fans.b = { s.thr.fans.b with manual := takenDuty dutyB.toNat } ∧ t.thr.holdOver = s.thr.holdOver ∧
      (∀ k, { t.sensor k with hs := 0 } = { s.sensor k with hs := 0 }) ∧ HeatFollows t))

/-- An evaluation writes the record of its stages; P_proc stays within F and Pmax in multiples of 250, a record without the
short flag is covered, and the limit, the short flag and a beginning overload are reported. The charge set-point is the
smaller of the new I_chg and I_req in steps of 64 mA. A session that asks for current and is granted none is held with the cause
BUDGET, and the retry starts at 5,000 ms. The model's choice: current words of 0x8000 or more (log entry 56). -/
def Obligations.BudgetEvaluationFollowsItsStages : Prop :=
  ∀ s : State, ∃ t, exec .budgetEvaluation s = .next (ended s t) ∧ (∃ reserved, EvaluatedAs s t.bud reserved) ∧
    processorFloor s.store.policy ≤ t.bud.pProc ∧ t.bud.pProc ≤ processorMax s.store.policy ∧
    (s.bud.backoff % 250 = 0 → 250 ∣ t.bud.pProc) ∧
    coveredBudget t.bud ∧ t.chg.iSet = setPoint t ∧
    (∃ u, t = settleCharge u ∧ u = { s with bud := u.bud, notice := u.notice, chg := u.chg } ∧ u.bud = t.bud ∧
      (unfunded s t → u.chg = { s.chg with hold := { s.chg.hold with budget := true }, budgetRetry := some 5000 }) ∧
      (¬ unfunded s t → u.chg = s.chg) ∧
      (∀ k, unfunded s t → s.chg.selected = some k → (s.pack k).state = .active → ¬ chargeEnds s k →
        ((sessionPass u).chg.packs.get k).phase = .hold ∧ (sessionPass u).chg.hold.budget = true ∧
        (sessionPass u).chg.budgetRetry = some 5000)) ∧
    (∀ k, unfunded s t → s.chg.selected = some k → (s.pack k).state = .active → ¬ chargeEnds s k → ¬ chargeEnds t k →
      ¬ calibrating s.chg.cal → s.chg.adapter.bypass = false → (s.pack (otherSlot k)).state ≠ .active →
      t.chg.selected = some k ∧ (t.chg.packs.get k).phase = .hold ∧ t.chg.hold.budget = true ∧ t.chg.budgetRetry = some 5000 ∧ t.chg.iSet = 0 ∧
      (t.entry .chargeState).pending = true) ∧
    (t.pwr, t.post, t.kbd, t.thr, t.link, t.store, t.now) = (s.pwr, s.post, s.kbd, s.thr, s.link, s.store, s.now) ∧
    t.entry .processorLimit = (if t.bud.r = s.bud.r then s.entry .processorLimit else
      { s.entry .processorLimit with pending := true, count := 0, payload := .processorLimit t.bud.r,
                                     latchTime := time32 s.now }) ∧
    t.entry .budgetShort = (if t.bud.short = s.bud.short then s.entry .budgetShort
      else if t.bud.short then
        { s.entry .budgetShort with pending := true, count := 0, payload := .empty, latchTime := time32 s.now }
      else { s.entry .budgetShort with pending := false }) ∧
    ((s.bud.overload < 3 ∧ t.bud.overload = 3) →
      (t.entry .adapterOverload).pending = true ∧
      (t.entry .adapterOverload).count = (if (s.entry .adapterOverload).pending then
        min 15 ((s.entry .adapterOverload).count + 1) else 1)) ∧
    (¬ (s.bud.overload < 3 ∧ t.bud.overload = 3) → t.entry .adapterOverload = s.entry .adapterOverload)

/-- A conversion round converts the four codes by the factory table, judges the crossings, reports a fault entry, a WARN
crossing that is set and a change of the tripped set, computes H, starts and stops the escalation window of THERMAL_TRIP, and
at the start of HARD turns the platform off from every state but OFF, POWER_DOWN and FAULT_OFF. The model's choice: order, the
sets compared once a round (log entries 31, 42 and 46). -/
def Obligations.ConversionRoundJudgesTheSensors : Prop :=
  ∀ (soc charger deck base : BitVec 12) (s : State), ∃ t, exec (.conversionRound soc charger deck base) s = .next (ended s t) ∧
    (∀ k, ConvertedTo s k (roundCode soc charger deck base k) (t.sensor k)) ∧ HeatFollows t ∧
    (∀ k, ¬ faulty (s.sensor k) → faulty (t.sensor k) → reports s t .sensorFault) ∧
    (∀ k, ¬ faulty (s.sensor k) → (s.sensor k).warn = false → (t.sensor k).warn = true → reports s t .thermalWarn) ∧
    (∀ k, (t.sensor k).trip ≠ (s.sensor k).trip → (∃ j, (t.sensor j).trip = true) → reports s t .thermalTrip ∧
      (t.entry .thermalTrip).payload = .sensors
        { soc := (t.sensor .soc).trip, charger := (t.sensor .charger).trip, deck := (t.sensor .deck).trip,
          base := (t.sensor .base).trip }) ∧
    (s.pwr.state = .run → t.pwr.state = .run →
      ((∀ k, (s.sensor k).trip = false) → windowStarts (∃ k, (t.sensor k).trip = true) s.store.policy.tripWindow
        s.notice.tripWindow t.notice.tripWindow) ∧
      ((∃ k, (s.sensor k).trip = true) → (∃ k, (t.sensor k).trip = true) → t.notice.tripWindow = s.notice.tripWindow)) ∧
    ((∃ k, (s.sensor k).trip = true) → (∀ k, (t.sensor k).trip = false) →
      (t.entry .thermalTrip).pending = false ∧ t.notice.tripWindow = none) ∧
    (¬ hardCrossing s → hardCrossing t → ForcedDown s t .thermalHard) ∧
    (hardCrossing s ∨ ¬ hardCrossing t → t.pwr = s.pwr) ∧ t.post = s.post ∧ t.link = s.link ∧ t.now = s.now

/-- The fans: a round keeps every fan with a holding floor condition at its safe floor, runs both at 100 under TRIP, and after
the start-up hold ramps each toward the target of its mode, and with a fan STALLED runs both at 100 in the running states, and
in the others while a floor condition holds. The curve target follows the curve in force at the governing temperature with
its hysteresis of 3.0 °C. The end of a window counts stalls and recoveries, a window with a duty of 20 or more throughout,
and a stalled fan takes both to 100 at once, outside the running states where a floor condition holds. The model's choice:
a stall found between a change of platform state and the next step (log entry 43). -/
def Obligations.FansFollowTheirTargets : Prop :=
  (∀ s : State, exec .startUpHoldEnd s = .next (refreshPins { s with thr := { s.thr with holdOver := true } })) ∧
  (∀ (soc charger deck base : BitVec 12) (s : State), ∃ t, exec (.conversionRound soc charger deck base) s = .next (ended s t) ∧
    (∀ f, floorHolds t f → safeFloor t f ≤ (t.thr.fans.get f).commanded) ∧
    ((∃ k, (t.sensor k).trip = true) → (s.thr.holdOver = true ∨ ∀ k, (s.sensor k).trip = false) →
      ∀ f, (t.thr.fans.get f).commanded = 100 ∧ (t.thr.fans.get f).target = 100) ∧
    (∀ f, s.thr.holdOver = false → ¬ floorHolds t f → (∀ k, (t.sensor k).trip = false) →
      (t.thr.fans.get f).curve = (s.thr.fans.get f).curve ∧ (t.thr.fans.get f).target = (s.thr.fans.get f).target ∧
      (t.thr.fans.get f).commanded = (s.thr.fans.get f).commanded) ∧
    (s.thr.holdOver = true → (∀ k, (t.sensor k).trip = false) → s.thr.fans.a.stalled = false → s.thr.fans.b.stalled = false →
      ∀ f, wantedDuty t f (t.thr.fans.get f).target ∧
        (¬ floorHolds t f → (t.thr.fans.get f).commanded =
          rampStep (s.thr.fans.get f).commanded (t.thr.fans.get f).target) ∧
        (floorHolds t f → (t.thr.fans.get f).commanded =
          rampStep (max (s.thr.fans.get f).commanded (safeFloor t f)) (t.thr.fans.get f).target)) ∧
    (s.thr.holdOver = true → (∀ k, (t.sensor k).trip = false) → (s.thr.fans.a.stalled = true ∨ s.thr.fans.b.stalled = true) →
      (running t ∨ (∃ f, floorHolds t f) → ∀ f, (t.thr.fans.get f).commanded = 100 ∧ (t.thr.fans.get f).target = 100) ∧
      (¬ running t → (∀ f, ¬ floorHolds t f) → ∀ f, (t.thr.fans.get f).target = 0 ∧
        (t.thr.fans.get f).commanded = rampStep (s.thr.fans.get f).commanded 0)) ∧
    (∀ f, (t.thr.fans.get f).stalled = (s.thr.fans.get f).stalled) ∧
    (s.thr.holdOver = true → ∀ f, CurveFollows s t f) ∧
    (s.thr.holdOver = false → ∀ f, (t.thr.fans.get f).curve = (s.thr.fans.get f).curve) ∧
    (∀ f, (20 ≤ (s.thr.fans.get f).commanded →
        ((t.thr.fans.get f).windowOk = true ↔ (s.thr.fans.get f).windowOk = true ∧ 20 ≤ (t.thr.fans.get f).commanded)) ∧
      ((s.thr.fans.get f).windowOk = false → (t.thr.fans.get f).windowOk = false))) ∧
  (∀ (a b : Fin 2185) (s : State), ∃ t, exec (.tachWindowEnd a b) s = .next t ∧
    WindowJudged s.thr.fans.a t.thr.fans.a (a.val * 30) ∧ WindowJudged s.thr.fans.b t.thr.fans.b (b.val * 30) ∧
    (stallSet t = stallSet s → t.notice = s.notice ∧ t.thr.h = s.thr.h ∧
      ∀ f, (t.thr.fans.get f).commanded = (s.thr.fans.get f).commanded ∧ (t.thr.fans.get f).target = (s.thr.fans.get f).target) ∧
    (stallSet t ≠ stallSet s → HeatFollows t ∧ (t.entry .fanFault).pending = true ∧
      (t.entry .fanFault).payload = .fanFault { a := t.thr.fans.a.stalled, b := t.thr.fans.b.stalled } ∧
      (running s → (t.thr.fans.a.stalled = true ∨ t.thr.fans.b.stalled = true) →
        ∀ f, (t.thr.fans.get f).commanded = 100 ∧ (t.thr.fans.get f).target = 100) ∧
      (¬ running s → (t.thr.fans.a.stalled = true ∨ t.thr.fans.b.stalled = true) → (∃ f, floorHolds s f) →
        ∀ f, (t.thr.fans.get f).commanded = 100 ∧ (t.thr.fans.get f).target = 100) ∧
      ((¬ running s ∧ ∀ f, ¬ floorHolds s f) ∨ (t.thr.fans.a.stalled = false ∧ t.thr.fans.b.stalled = false) → ∀ f,
        (t.thr.fans.get f).commanded = (s.thr.fans.get f).commanded ∧
        (t.thr.fans.get f).target = (s.thr.fans.get f).target)) ∧
    (∀ f, (t.thr.fans.get f).windowOk = true ↔ 20 ≤ (t.thr.fans.get f).commanded) ∧
    (t.pwr, t.post, t.kbd, t.packs, t.bus, t.chg, t.bud, t.link, t.store, t.now) =
      (s.pwr, s.post, s.kbd, s.packs, s.bus, s.chg, s.bud, s.link, s.store, s.now))

/-! ### Laws of the whole machine -/

/-- Every step keeps the laws of power: the current set-point is the smaller of I_chg and I_req in steps, within the pack's
request, its limit and 4,032 mA, and 0 for a pack that is not ACTIVE, is terminated or out of its window, or during a
backoff; the voltage set-point is the charge voltage in steps; no session runs beside a hold cause; the bypass is ON exactly in an
unsuspended DISCHARGE, which stands suspended without the adapter and outside RUN, and the pack in DISCHARGE or REST is not
selected; the selected pack is the one that R104 chooses, and no item young enough for its period stands not valid; R within F and Pmax; a covered record covered; a tach window noted as driven only at a duty of 20 or more. The model's
choice: the last settling of a step, a requested current of 0x8000 or more (log entries 19 and 56). -/
def Obligations.EveryStepKeepsPowerLaws : Prop :=
  ∀ s t : State, PowerLaws s → step s = .next t → PowerLaws t

/-- The state after reset meets the laws that every step keeps. -/
def Obligations.ResetMeetsTheLaws : Prop :=
  PinsFollow State.reset ∧ ControlsLegal State.reset ∧ PowerLaws State.reset ∧ State.reset.store.image.wf = true ∧
    State.reset.store.factory.wf = true

end Statements
end

