-- ==== Sys2Proof/Laws/Bytes.lean ====
section
/-! SUPPORT. Numbers as bytes: a little-endian number reads back, a word is put together from its bytes, and how many
bytes GET_THERMAL's parts and a response frame take. -/
namespace Sys2Proof.Machine

theorem append_byte {n : Nat} (a : BitVec n) (b : Byte) : (a ++ b).toNat = a.toNat * 256 + b.toNat := by
  rw [BitVec.toNat_append, ← Nat.shiftLeft_add_eq_or_of_lt b.isLt, Nat.shiftLeft_eq]

theorem word16_of_bytes (o : BitVec 16) : o.extractLsb' 8 8 ++ o.extractLsb' 0 8 = o := by
  apply BitVec.eq_of_toNat_eq
  rw [append_byte]
  simp only [BitVec.extractLsb'_toNat, Nat.shiftRight_eq_div_pow]
  have := o.isLt
  omega

theorem word32_of_bytes (o : BitVec 32) :
    o.extractLsb' 24 8 ++ o.extractLsb' 16 8 ++ o.extractLsb' 8 8 ++ o.extractLsb' 0 8 = o := by
  apply BitVec.eq_of_toNat_eq
  rw [append_byte, append_byte, append_byte]
  simp only [BitVec.extractLsb'_toNat, Nat.shiftRight_eq_div_pow]
  have := o.isLt
  omega

@[simp] theorem length_le8 (n : Nat) : (le8 n).length = 1 := rfl
@[simp] theorem length_le16 (n : Nat) : (le16 n).length = 2 := rfl
@[simp] theorem length_le32 (n : Nat) : (le32 n).length = 4 := rfl
@[simp] theorem length_leInt16 (n : Int) : (leInt16 n).length = 2 := rfl
@[simp] theorem length_flag8 (b : Bool) : (flag8 b).length = 1 := rfl
@[simp] theorem length_firstOf (b : Bool) : (firstOf b).length = 1 := rfl
@[simp] theorem length_opt8 (n : Option Nat) : (opt8 n).length = 1 := by cases n <;> rfl
@[simp] theorem length_opt16 (n : Option Nat) : (opt16 n).length = 2 := by cases n <;> rfl
@[simp] theorem length_optTemp (n : Option Int) : (optTemp n).length = 2 := by cases n <;> rfl

@[simp] theorem length_sensorPayload (s : State) (k : Sensor) : (sensorPayload s k).length = 14 := by simp [sensorPayload]
@[simp] theorem length_fanPayload (s : State) (f : Fan) : (fanPayload s f).length = 10 := by simp [fanPayload]
@[simp] theorem length_thermalPayload (s : State) : (thermalPayload s).length = 82 := by simp [thermalPayload, allSensors]

/-- What a response frame sends of an answer: at most 56 bytes, and the whole of an answer that has no more (R182). -/
theorem length_sent (r : Response) : r.sent.length = min maxPayload r.payload.length := List.length_take
theorem length_sent_le (r : Response) : r.sent.length ≤ 56 := List.length_take_le 56 r.payload
theorem sent_of_fits (r : Response) (h : r.payload.length ≤ 56) : r.sent = r.payload := List.take_of_length_le h

/-- A number of one, two or four bytes reads back from its bytes. -/
theorem fromLe_le8 (n : Nat) (h : n < 256) : fromLe (le8 n) = n := by simp [fromLe, le8]; omega
theorem fromLe_le16 (n : Nat) (h : n < 65536) : fromLe (le16 n) = n := by simp [fromLe, le16]; omega
theorem fromLe_le32 (n : Nat) (h : n < 4294967296) : fromLe (le32 n) = n := by simp [fromLe, le32]; omega

end Sys2Proof.Machine
end

