-- ==== Sys2Proof/Laws/State.lean ====
section
/-! SUPPORT. One lemma per field per update of the state, true by rfl, so that no later proof unfolds a record
update. -/
namespace Sys2Proof.Machine

variable (s : State)

/-! ### mapPwr -/

@[simp] theorem State.mapPwr_pending (f : Sequencer → Sequencer) : (s.mapPwr f).pending = s.pending := rfl
@[simp] theorem State.mapPwr_now (f : Sequencer → Sequencer) : (s.mapPwr f).now = s.now := rfl
@[simp] theorem State.mapPwr_free (f : Sequencer → Sequencer) : (s.mapPwr f).free = s.free := rfl
@[simp] theorem State.mapPwr_pwr (f : Sequencer → Sequencer) : (s.mapPwr f).pwr = f s.pwr := rfl
@[simp] theorem State.mapPwr_post (f : Sequencer → Sequencer) : (s.mapPwr f).post = s.post := rfl
@[simp] theorem State.mapPwr_kbd (f : Sequencer → Sequencer) : (s.mapPwr f).kbd = s.kbd := rfl
@[simp] theorem State.mapPwr_packs (f : Sequencer → Sequencer) : (s.mapPwr f).packs = s.packs := rfl
@[simp] theorem State.mapPwr_bus (f : Sequencer → Sequencer) : (s.mapPwr f).bus = s.bus := rfl
@[simp] theorem State.mapPwr_chg (f : Sequencer → Sequencer) : (s.mapPwr f).chg = s.chg := rfl
@[simp] theorem State.mapPwr_bud (f : Sequencer → Sequencer) : (s.mapPwr f).bud = s.bud := rfl
@[simp] theorem State.mapPwr_thr (f : Sequencer → Sequencer) : (s.mapPwr f).thr = s.thr := rfl
@[simp] theorem State.mapPwr_notice (f : Sequencer → Sequencer) : (s.mapPwr f).notice = s.notice := rfl
@[simp] theorem State.mapPwr_link (f : Sequencer → Sequencer) : (s.mapPwr f).link = s.link := rfl
@[simp] theorem State.mapPwr_store (f : Sequencer → Sequencer) : (s.mapPwr f).store = s.store := rfl
@[simp] theorem State.mapPwr_pins (f : Sequencer → Sequencer) : (s.mapPwr f).pins = s.pins := rfl

/-! ### mapPost -/

@[simp] theorem State.mapPost_pending (f : PostureMonitor → PostureMonitor) : (s.mapPost f).pending = s.pending := rfl
@[simp] theorem State.mapPost_now (f : PostureMonitor → PostureMonitor) : (s.mapPost f).now = s.now := rfl
@[simp] theorem State.mapPost_free (f : PostureMonitor → PostureMonitor) : (s.mapPost f).free = s.free := rfl
@[simp] theorem State.mapPost_pwr (f : PostureMonitor → PostureMonitor) : (s.mapPost f).pwr = s.pwr := rfl
@[simp] theorem State.mapPost_post (f : PostureMonitor → PostureMonitor) : (s.mapPost f).post = f s.post := rfl
@[simp] theorem State.mapPost_kbd (f : PostureMonitor → PostureMonitor) : (s.mapPost f).kbd = s.kbd := rfl
@[simp] theorem State.mapPost_packs (f : PostureMonitor → PostureMonitor) : (s.mapPost f).packs = s.packs := rfl
@[simp] theorem State.mapPost_bus (f : PostureMonitor → PostureMonitor) : (s.mapPost f).bus = s.bus := rfl
@[simp] theorem State.mapPost_chg (f : PostureMonitor → PostureMonitor) : (s.mapPost f).chg = s.chg := rfl
@[simp] theorem State.mapPost_bud (f : PostureMonitor → PostureMonitor) : (s.mapPost f).bud = s.bud := rfl
@[simp] theorem State.mapPost_thr (f : PostureMonitor → PostureMonitor) : (s.mapPost f).thr = s.thr := rfl
@[simp] theorem State.mapPost_notice (f : PostureMonitor → PostureMonitor) : (s.mapPost f).notice = s.notice := rfl
@[simp] theorem State.mapPost_link (f : PostureMonitor → PostureMonitor) : (s.mapPost f).link = s.link := rfl
@[simp] theorem State.mapPost_store (f : PostureMonitor → PostureMonitor) : (s.mapPost f).store = s.store := rfl
@[simp] theorem State.mapPost_pins (f : PostureMonitor → PostureMonitor) : (s.mapPost f).pins = s.pins := rfl

/-! ### mapKbd -/

@[simp] theorem State.mapKbd_pending (f : Keyboard → Keyboard) : (s.mapKbd f).pending = s.pending := rfl
@[simp] theorem State.mapKbd_now (f : Keyboard → Keyboard) : (s.mapKbd f).now = s.now := rfl
@[simp] theorem State.mapKbd_free (f : Keyboard → Keyboard) : (s.mapKbd f).free = s.free := rfl
@[simp] theorem State.mapKbd_pwr (f : Keyboard → Keyboard) : (s.mapKbd f).pwr = s.pwr := rfl
@[simp] theorem State.mapKbd_post (f : Keyboard → Keyboard) : (s.mapKbd f).post = s.post := rfl
@[simp] theorem State.mapKbd_kbd (f : Keyboard → Keyboard) : (s.mapKbd f).kbd = f s.kbd := rfl
@[simp] theorem State.mapKbd_packs (f : Keyboard → Keyboard) : (s.mapKbd f).packs = s.packs := rfl
@[simp] theorem State.mapKbd_bus (f : Keyboard → Keyboard) : (s.mapKbd f).bus = s.bus := rfl
@[simp] theorem State.mapKbd_chg (f : Keyboard → Keyboard) : (s.mapKbd f).chg = s.chg := rfl
@[simp] theorem State.mapKbd_bud (f : Keyboard → Keyboard) : (s.mapKbd f).bud = s.bud := rfl
@[simp] theorem State.mapKbd_thr (f : Keyboard → Keyboard) : (s.mapKbd f).thr = s.thr := rfl
@[simp] theorem State.mapKbd_notice (f : Keyboard → Keyboard) : (s.mapKbd f).notice = s.notice := rfl
@[simp] theorem State.mapKbd_link (f : Keyboard → Keyboard) : (s.mapKbd f).link = s.link := rfl
@[simp] theorem State.mapKbd_store (f : Keyboard → Keyboard) : (s.mapKbd f).store = s.store := rfl
@[simp] theorem State.mapKbd_pins (f : Keyboard → Keyboard) : (s.mapKbd f).pins = s.pins := rfl

/-! ### mapBus -/

@[simp] theorem State.mapBus_pending (f : Bus → Bus) : (s.mapBus f).pending = s.pending := rfl
@[simp] theorem State.mapBus_now (f : Bus → Bus) : (s.mapBus f).now = s.now := rfl
@[simp] theorem State.mapBus_free (f : Bus → Bus) : (s.mapBus f).free = s.free := rfl
@[simp] theorem State.mapBus_pwr (f : Bus → Bus) : (s.mapBus f).pwr = s.pwr := rfl
@[simp] theorem State.mapBus_post (f : Bus → Bus) : (s.mapBus f).post = s.post := rfl
@[simp] theorem State.mapBus_kbd (f : Bus → Bus) : (s.mapBus f).kbd = s.kbd := rfl
@[simp] theorem State.mapBus_packs (f : Bus → Bus) : (s.mapBus f).packs = s.packs := rfl
@[simp] theorem State.mapBus_bus (f : Bus → Bus) : (s.mapBus f).bus = f s.bus := rfl
@[simp] theorem State.mapBus_chg (f : Bus → Bus) : (s.mapBus f).chg = s.chg := rfl
@[simp] theorem State.mapBus_bud (f : Bus → Bus) : (s.mapBus f).bud = s.bud := rfl
@[simp] theorem State.mapBus_thr (f : Bus → Bus) : (s.mapBus f).thr = s.thr := rfl
@[simp] theorem State.mapBus_notice (f : Bus → Bus) : (s.mapBus f).notice = s.notice := rfl
@[simp] theorem State.mapBus_link (f : Bus → Bus) : (s.mapBus f).link = s.link := rfl
@[simp] theorem State.mapBus_store (f : Bus → Bus) : (s.mapBus f).store = s.store := rfl
@[simp] theorem State.mapBus_pins (f : Bus → Bus) : (s.mapBus f).pins = s.pins := rfl

/-! ### mapChg -/

@[simp] theorem State.mapChg_pending (f : Charger → Charger) : (s.mapChg f).pending = s.pending := rfl
@[simp] theorem State.mapChg_now (f : Charger → Charger) : (s.mapChg f).now = s.now := rfl
@[simp] theorem State.mapChg_free (f : Charger → Charger) : (s.mapChg f).free = s.free := rfl
@[simp] theorem State.mapChg_pwr (f : Charger → Charger) : (s.mapChg f).pwr = s.pwr := rfl
@[simp] theorem State.mapChg_post (f : Charger → Charger) : (s.mapChg f).post = s.post := rfl
@[simp] theorem State.mapChg_kbd (f : Charger → Charger) : (s.mapChg f).kbd = s.kbd := rfl
@[simp] theorem State.mapChg_packs (f : Charger → Charger) : (s.mapChg f).packs = s.packs := rfl
@[simp] theorem State.mapChg_bus (f : Charger → Charger) : (s.mapChg f).bus = s.bus := rfl
@[simp] theorem State.mapChg_chg (f : Charger → Charger) : (s.mapChg f).chg = f s.chg := rfl
@[simp] theorem State.mapChg_bud (f : Charger → Charger) : (s.mapChg f).bud = s.bud := rfl
@[simp] theorem State.mapChg_thr (f : Charger → Charger) : (s.mapChg f).thr = s.thr := rfl
@[simp] theorem State.mapChg_notice (f : Charger → Charger) : (s.mapChg f).notice = s.notice := rfl
@[simp] theorem State.mapChg_link (f : Charger → Charger) : (s.mapChg f).link = s.link := rfl
@[simp] theorem State.mapChg_store (f : Charger → Charger) : (s.mapChg f).store = s.store := rfl
@[simp] theorem State.mapChg_pins (f : Charger → Charger) : (s.mapChg f).pins = s.pins := rfl

/-! ### mapBud -/

@[simp] theorem State.mapBud_pending (f : Budget → Budget) : (s.mapBud f).pending = s.pending := rfl
@[simp] theorem State.mapBud_now (f : Budget → Budget) : (s.mapBud f).now = s.now := rfl
@[simp] theorem State.mapBud_free (f : Budget → Budget) : (s.mapBud f).free = s.free := rfl
@[simp] theorem State.mapBud_pwr (f : Budget → Budget) : (s.mapBud f).pwr = s.pwr := rfl
@[simp] theorem State.mapBud_post (f : Budget → Budget) : (s.mapBud f).post = s.post := rfl
@[simp] theorem State.mapBud_kbd (f : Budget → Budget) : (s.mapBud f).kbd = s.kbd := rfl
@[simp] theorem State.mapBud_packs (f : Budget → Budget) : (s.mapBud f).packs = s.packs := rfl
@[simp] theorem State.mapBud_bus (f : Budget → Budget) : (s.mapBud f).bus = s.bus := rfl
@[simp] theorem State.mapBud_chg (f : Budget → Budget) : (s.mapBud f).chg = s.chg := rfl
@[simp] theorem State.mapBud_bud (f : Budget → Budget) : (s.mapBud f).bud = f s.bud := rfl
@[simp] theorem State.mapBud_thr (f : Budget → Budget) : (s.mapBud f).thr = s.thr := rfl
@[simp] theorem State.mapBud_notice (f : Budget → Budget) : (s.mapBud f).notice = s.notice := rfl
@[simp] theorem State.mapBud_link (f : Budget → Budget) : (s.mapBud f).link = s.link := rfl
@[simp] theorem State.mapBud_store (f : Budget → Budget) : (s.mapBud f).store = s.store := rfl
@[simp] theorem State.mapBud_pins (f : Budget → Budget) : (s.mapBud f).pins = s.pins := rfl

/-! ### mapThr -/

@[simp] theorem State.mapThr_pending (f : Thermal → Thermal) : (s.mapThr f).pending = s.pending := rfl
@[simp] theorem State.mapThr_now (f : Thermal → Thermal) : (s.mapThr f).now = s.now := rfl
@[simp] theorem State.mapThr_free (f : Thermal → Thermal) : (s.mapThr f).free = s.free := rfl
@[simp] theorem State.mapThr_pwr (f : Thermal → Thermal) : (s.mapThr f).pwr = s.pwr := rfl
@[simp] theorem State.mapThr_post (f : Thermal → Thermal) : (s.mapThr f).post = s.post := rfl
@[simp] theorem State.mapThr_kbd (f : Thermal → Thermal) : (s.mapThr f).kbd = s.kbd := rfl
@[simp] theorem State.mapThr_packs (f : Thermal → Thermal) : (s.mapThr f).packs = s.packs := rfl
@[simp] theorem State.mapThr_bus (f : Thermal → Thermal) : (s.mapThr f).bus = s.bus := rfl
@[simp] theorem State.mapThr_chg (f : Thermal → Thermal) : (s.mapThr f).chg = s.chg := rfl
@[simp] theorem State.mapThr_bud (f : Thermal → Thermal) : (s.mapThr f).bud = s.bud := rfl
@[simp] theorem State.mapThr_thr (f : Thermal → Thermal) : (s.mapThr f).thr = f s.thr := rfl
@[simp] theorem State.mapThr_notice (f : Thermal → Thermal) : (s.mapThr f).notice = s.notice := rfl
@[simp] theorem State.mapThr_link (f : Thermal → Thermal) : (s.mapThr f).link = s.link := rfl
@[simp] theorem State.mapThr_store (f : Thermal → Thermal) : (s.mapThr f).store = s.store := rfl
@[simp] theorem State.mapThr_pins (f : Thermal → Thermal) : (s.mapThr f).pins = s.pins := rfl

/-! ### mapStore -/

@[simp] theorem State.mapStore_pending (f : Store → Store) : (s.mapStore f).pending = s.pending := rfl
@[simp] theorem State.mapStore_now (f : Store → Store) : (s.mapStore f).now = s.now := rfl
@[simp] theorem State.mapStore_free (f : Store → Store) : (s.mapStore f).free = s.free := rfl
@[simp] theorem State.mapStore_pwr (f : Store → Store) : (s.mapStore f).pwr = s.pwr := rfl
@[simp] theorem State.mapStore_post (f : Store → Store) : (s.mapStore f).post = s.post := rfl
@[simp] theorem State.mapStore_kbd (f : Store → Store) : (s.mapStore f).kbd = s.kbd := rfl
@[simp] theorem State.mapStore_packs (f : Store → Store) : (s.mapStore f).packs = s.packs := rfl
@[simp] theorem State.mapStore_bus (f : Store → Store) : (s.mapStore f).bus = s.bus := rfl
@[simp] theorem State.mapStore_chg (f : Store → Store) : (s.mapStore f).chg = s.chg := rfl
@[simp] theorem State.mapStore_bud (f : Store → Store) : (s.mapStore f).bud = s.bud := rfl
@[simp] theorem State.mapStore_thr (f : Store → Store) : (s.mapStore f).thr = s.thr := rfl
@[simp] theorem State.mapStore_notice (f : Store → Store) : (s.mapStore f).notice = s.notice := rfl
@[simp] theorem State.mapStore_link (f : Store → Store) : (s.mapStore f).link = s.link := rfl
@[simp] theorem State.mapStore_store (f : Store → Store) : (s.mapStore f).store = f s.store := rfl
@[simp] theorem State.mapStore_pins (f : Store → Store) : (s.mapStore f).pins = s.pins := rfl

/-! ### mapPack -/

@[simp] theorem State.mapPack_pending (k : Slot) (f : PackSlot → PackSlot) : (s.mapPack k f).pending = s.pending := rfl
@[simp] theorem State.mapPack_now (k : Slot) (f : PackSlot → PackSlot) : (s.mapPack k f).now = s.now := rfl
@[simp] theorem State.mapPack_free (k : Slot) (f : PackSlot → PackSlot) : (s.mapPack k f).free = s.free := rfl
@[simp] theorem State.mapPack_pwr (k : Slot) (f : PackSlot → PackSlot) : (s.mapPack k f).pwr = s.pwr := rfl
@[simp] theorem State.mapPack_post (k : Slot) (f : PackSlot → PackSlot) : (s.mapPack k f).post = s.post := rfl
@[simp] theorem State.mapPack_kbd (k : Slot) (f : PackSlot → PackSlot) : (s.mapPack k f).kbd = s.kbd := rfl
@[simp] theorem State.mapPack_packs (k : Slot) (f : PackSlot → PackSlot) : (s.mapPack k f).packs = s.packs.set k (f (s.pack k)) := rfl
@[simp] theorem State.mapPack_bus (k : Slot) (f : PackSlot → PackSlot) : (s.mapPack k f).bus = s.bus := rfl
@[simp] theorem State.mapPack_chg (k : Slot) (f : PackSlot → PackSlot) : (s.mapPack k f).chg = s.chg := rfl
@[simp] theorem State.mapPack_bud (k : Slot) (f : PackSlot → PackSlot) : (s.mapPack k f).bud = s.bud := rfl
@[simp] theorem State.mapPack_thr (k : Slot) (f : PackSlot → PackSlot) : (s.mapPack k f).thr = s.thr := rfl
@[simp] theorem State.mapPack_notice (k : Slot) (f : PackSlot → PackSlot) : (s.mapPack k f).notice = s.notice := rfl
@[simp] theorem State.mapPack_link (k : Slot) (f : PackSlot → PackSlot) : (s.mapPack k f).link = s.link := rfl
@[simp] theorem State.mapPack_store (k : Slot) (f : PackSlot → PackSlot) : (s.mapPack k f).store = s.store := rfl
@[simp] theorem State.mapPack_pins (k : Slot) (f : PackSlot → PackSlot) : (s.mapPack k f).pins = s.pins := rfl

/-! ### mapEntry -/

@[simp] theorem State.mapEntry_pending (k : Kind) (f : EventEntry → EventEntry) : (s.mapEntry k f).pending = s.pending := rfl
@[simp] theorem State.mapEntry_now (k : Kind) (f : EventEntry → EventEntry) : (s.mapEntry k f).now = s.now := rfl
@[simp] theorem State.mapEntry_free (k : Kind) (f : EventEntry → EventEntry) : (s.mapEntry k f).free = s.free := rfl
@[simp] theorem State.mapEntry_pwr (k : Kind) (f : EventEntry → EventEntry) : (s.mapEntry k f).pwr = s.pwr := rfl
@[simp] theorem State.mapEntry_post (k : Kind) (f : EventEntry → EventEntry) : (s.mapEntry k f).post = s.post := rfl
@[simp] theorem State.mapEntry_kbd (k : Kind) (f : EventEntry → EventEntry) : (s.mapEntry k f).kbd = s.kbd := rfl
@[simp] theorem State.mapEntry_packs (k : Kind) (f : EventEntry → EventEntry) : (s.mapEntry k f).packs = s.packs := rfl
@[simp] theorem State.mapEntry_bus (k : Kind) (f : EventEntry → EventEntry) : (s.mapEntry k f).bus = s.bus := rfl
@[simp] theorem State.mapEntry_chg (k : Kind) (f : EventEntry → EventEntry) : (s.mapEntry k f).chg = s.chg := rfl
@[simp] theorem State.mapEntry_bud (k : Kind) (f : EventEntry → EventEntry) : (s.mapEntry k f).bud = s.bud := rfl
@[simp] theorem State.mapEntry_thr (k : Kind) (f : EventEntry → EventEntry) : (s.mapEntry k f).thr = s.thr := rfl
@[simp] theorem State.mapEntry_notice (k : Kind) (f : EventEntry → EventEntry) : (s.mapEntry k f).notice = { s.notice with table := s.notice.table.set k (f (s.entry k)) } := rfl
@[simp] theorem State.mapEntry_link (k : Kind) (f : EventEntry → EventEntry) : (s.mapEntry k f).link = s.link := rfl
@[simp] theorem State.mapEntry_store (k : Kind) (f : EventEntry → EventEntry) : (s.mapEntry k f).store = s.store := rfl
@[simp] theorem State.mapEntry_pins (k : Kind) (f : EventEntry → EventEntry) : (s.mapEntry k f).pins = s.pins := rfl

/-! ### refreshPins -/

@[simp] theorem refreshPins_pending : (refreshPins s).pending = s.pending := rfl
@[simp] theorem refreshPins_now : (refreshPins s).now = s.now := rfl
@[simp] theorem refreshPins_free : (refreshPins s).free = s.free := rfl
@[simp] theorem refreshPins_pwr : (refreshPins s).pwr = s.pwr := rfl
@[simp] theorem refreshPins_post : (refreshPins s).post = s.post := rfl
@[simp] theorem refreshPins_kbd : (refreshPins s).kbd = s.kbd := rfl
@[simp] theorem refreshPins_packs : (refreshPins s).packs = s.packs := rfl
@[simp] theorem refreshPins_bus : (refreshPins s).bus = s.bus := rfl
@[simp] theorem refreshPins_chg : (refreshPins s).chg = s.chg := rfl
@[simp] theorem refreshPins_bud : (refreshPins s).bud = s.bud := rfl
@[simp] theorem refreshPins_thr : (refreshPins s).thr = s.thr := rfl
@[simp] theorem refreshPins_notice : (refreshPins s).notice = s.notice := rfl
@[simp] theorem refreshPins_link : (refreshPins s).link = s.link := rfl
@[simp] theorem refreshPins_store : (refreshPins s).store = s.store := rfl
@[simp] theorem refreshPins_pins : (refreshPins s).pins = pinsOf s := rfl

/-! ### respond -/

@[simp] theorem respond_pending (kind tag : Byte) (status : Status) (payload : List Byte) : (respond kind tag status payload s).pending = s.pending := rfl
@[simp] theorem respond_now (kind tag : Byte) (status : Status) (payload : List Byte) : (respond kind tag status payload s).now = s.now := rfl
@[simp] theorem respond_free (kind tag : Byte) (status : Status) (payload : List Byte) : (respond kind tag status payload s).free = s.free := rfl
@[simp] theorem respond_pwr (kind tag : Byte) (status : Status) (payload : List Byte) : (respond kind tag status payload s).pwr = s.pwr := rfl
@[simp] theorem respond_post (kind tag : Byte) (status : Status) (payload : List Byte) : (respond kind tag status payload s).post = s.post := rfl
@[simp] theorem respond_kbd (kind tag : Byte) (status : Status) (payload : List Byte) : (respond kind tag status payload s).kbd = s.kbd := rfl
@[simp] theorem respond_packs (kind tag : Byte) (status : Status) (payload : List Byte) : (respond kind tag status payload s).packs = s.packs := rfl
@[simp] theorem respond_bus (kind tag : Byte) (status : Status) (payload : List Byte) : (respond kind tag status payload s).bus = s.bus := rfl
@[simp] theorem respond_chg (kind tag : Byte) (status : Status) (payload : List Byte) : (respond kind tag status payload s).chg = s.chg := rfl
@[simp] theorem respond_bud (kind tag : Byte) (status : Status) (payload : List Byte) : (respond kind tag status payload s).bud = s.bud := rfl
@[simp] theorem respond_thr (kind tag : Byte) (status : Status) (payload : List Byte) : (respond kind tag status payload s).thr = s.thr := rfl
@[simp] theorem respond_notice (kind tag : Byte) (status : Status) (payload : List Byte) : (respond kind tag status payload s).notice = s.notice := rfl
@[simp] theorem respond_link (kind tag : Byte) (status : Status) (payload : List Byte) : (respond kind tag status payload s).link = { s.link with slot := ⟨kind ||| 0x80, tag, status, payload⟩ } := rfl
@[simp] theorem respond_store (kind tag : Byte) (status : Status) (payload : List Byte) : (respond kind tag status payload s).store = s.store := rfl
@[simp] theorem respond_pins (kind tag : Byte) (status : Status) (payload : List Byte) : (respond kind tag status payload s).pins = s.pins := rfl

/-! ### refuse -/

@[simp] theorem refuse_pending (kind tag : Byte) (status : Status) : (refuse kind tag status s).pending = s.pending := rfl
@[simp] theorem refuse_now (kind tag : Byte) (status : Status) : (refuse kind tag status s).now = s.now := rfl
@[simp] theorem refuse_free (kind tag : Byte) (status : Status) : (refuse kind tag status s).free = s.free := rfl
@[simp] theorem refuse_pwr (kind tag : Byte) (status : Status) : (refuse kind tag status s).pwr = s.pwr := rfl
@[simp] theorem refuse_post (kind tag : Byte) (status : Status) : (refuse kind tag status s).post = s.post := rfl
@[simp] theorem refuse_kbd (kind tag : Byte) (status : Status) : (refuse kind tag status s).kbd = s.kbd := rfl
@[simp] theorem refuse_packs (kind tag : Byte) (status : Status) : (refuse kind tag status s).packs = s.packs := rfl
@[simp] theorem refuse_bus (kind tag : Byte) (status : Status) : (refuse kind tag status s).bus = s.bus := rfl
@[simp] theorem refuse_chg (kind tag : Byte) (status : Status) : (refuse kind tag status s).chg = s.chg := rfl
@[simp] theorem refuse_bud (kind tag : Byte) (status : Status) : (refuse kind tag status s).bud = s.bud := rfl
@[simp] theorem refuse_thr (kind tag : Byte) (status : Status) : (refuse kind tag status s).thr = s.thr := rfl
@[simp] theorem refuse_notice (kind tag : Byte) (status : Status) : (refuse kind tag status s).notice = s.notice := rfl
@[simp] theorem refuse_link (kind tag : Byte) (status : Status) : (refuse kind tag status s).link = { s.link with slot := ⟨kind ||| 0x80, tag, status, []⟩ } := rfl
@[simp] theorem refuse_store (kind tag : Byte) (status : Status) : (refuse kind tag status s).store = s.store := rfl
@[simp] theorem refuse_pins (kind tag : Byte) (status : Status) : (refuse kind tag status s).pins = s.pins := rfl

end Sys2Proof.Machine
end

