-- ==== Sys2Proof/Laws/Notice.lean ====
section
/-! SUPPORT. What the event table's operations do: an entry written reads back, every other entry stays, and latches and
ends of conditions leave levels and masks alone. -/
namespace Sys2Proof.Machine

@[simp] theorem PerKind.get_set_self {α : Type} (t : PerKind α) (k : Kind) (v : α) : (t.set k v).get k = v := by
  cases k <;> rfl

theorem PerKind.get_set_other {α : Type} (t : PerKind α) {j k : Kind} (v : α) (h : j ≠ k) :
    (t.set k v).get j = t.get j := by
  cases k <;> cases j <;> first | rfl | exact absurd rfl h

theorem PerKind.get_map {α : Type} (f : Kind → α → α) (t : PerKind α) (k : Kind) : (t.map f).get k = f k (t.get k) := by
  cases k <;> rfl

@[simp] theorem PerSlot.get_set_self {α : Type} (t : PerSlot α) (k : Slot) (v : α) : (t.set k v).get k = v := by
  cases k <;> rfl

theorem PerSlot.get_set_other {α : Type} (t : PerSlot α) {j k : Slot} (v : α) (h : j ≠ k) :
    (t.set k v).get j = t.get j := by
  cases k <;> cases j <;> first | rfl | exact absurd rfl h

theorem PerSlot.get_set {α : Type} (t : PerSlot α) (j k : Slot) (v : α) :
    (t.set k v).get j = if j = k then v else t.get j := by
  cases k <;> cases j <;> rfl

@[simp] theorem PerRail.get_set_self {α : Type} (t : PerRail α) (k : Rail) (v : α) : (t.set k v).get k = v := by
  cases k <;> rfl

theorem PerRail.get_set_other {α : Type} (t : PerRail α) {j k : Rail} (v : α) (h : j ≠ k) :
    (t.set k v).get j = t.get j := by
  cases k <;> cases j <;> first | rfl | exact absurd rfl h

/-- An entry written by mapEntry reads back; the others stay. -/
theorem entry_mapEntry (s : State) (j k : Kind) (f : EventEntry → EventEntry) :
    (s.mapEntry k f).entry j = if j = k then f (s.entry k) else s.entry j := by
  by_cases h : j = k
  · subst h; simp [State.mapEntry, State.entry]
  · simp [State.mapEntry, State.entry, PerKind.get_set_other _ _ h, h]

/-- What a latch does to each entry (R166). -/
theorem entry_latch (s : State) (j k : Kind) (p : Payload) :
    (latch k p s).entry j = if j = k then latchEntry k p (time32 s.now) (s.entry k) else s.entry j :=
  entry_mapEntry s j k _

/-- What the end of a condition does to each entry (R167). -/
theorem entry_endCondition (s : State) (j k : Kind) :
    (endCondition k s).entry j = if j = k then { s.entry k with pending := false } else s.entry j :=
  entry_mapEntry s j k _

@[simp] theorem latchEntry_level (k : Kind) (p : Payload) (time : Nat) (e : EventEntry) :
    (latchEntry k p time e).level = e.level := by
  unfold latchEntry; split <;> (try split) <;> rfl

@[simp] theorem latchEntry_mask (k : Kind) (p : Payload) (time : Nat) (e : EventEntry) :
    (latchEntry k p time e).mask = e.mask := by
  unfold latchEntry; split <;> (try split) <;> rfl

/-- A latched entry is pending (R166). -/
@[simp] theorem latchEntry_pending (k : Kind) (p : Payload) (time : Nat) (e : EventEntry) :
    (latchEntry k p time e).pending = true := by
  unfold latchEntry; split <;> (try split) <;> first | rfl | assumption

/-- The host's settings of every entry: level and mask. -/
def controls (s : State) (k : Kind) : Nat × Bool := ((s.entry k).level, (s.entry k).mask)

theorem controls_mapEntry (s : State) (k : Kind) (f : EventEntry → EventEntry)
    (hl : (f (s.entry k)).level = (s.entry k).level) (hm : (f (s.entry k)).mask = (s.entry k).mask) :
    controls (s.mapEntry k f) = controls s := by
  funext j
  by_cases h : j = k
  · subst h; simp [controls, entry_mapEntry, hl, hm]
  · simp [controls, entry_mapEntry, h]

@[simp] theorem controls_latch (s : State) (k : Kind) (p : Payload) : controls (latch k p s) = controls s :=
  controls_mapEntry s k _ (by simp) (by simp)

@[simp] theorem controls_endCondition (s : State) (k : Kind) : controls (endCondition k s) = controls s :=
  controls_mapEntry s k _ rfl rfl

/-- The kinds whose entries the charge controller's settling, the scanner's own operations and the standing conditions
neither latch nor end. -/
def Kind.settled : Kind → Bool
  | .criticalEnergy | .thermalTrip | .budgetShort | .lowEnergy | .sourceChanged | .chargeState | .calibrationStatus
  | .keyAvailable | .adapterChanged => false
  | _ => true

@[simp] theorem settled_criticalEnergy : Kind.criticalEnergy.settled = false := by decide
@[simp] theorem settled_thermalTrip : Kind.thermalTrip.settled = false := by decide
@[simp] theorem settled_budgetShort : Kind.budgetShort.settled = false := by decide
@[simp] theorem settled_lowEnergy : Kind.lowEnergy.settled = false := by decide
@[simp] theorem settled_sourceChanged : Kind.sourceChanged.settled = false := by decide
@[simp] theorem settled_chargeState : Kind.chargeState.settled = false := by decide
@[simp] theorem settled_calibrationStatus : Kind.calibrationStatus.settled = false := by decide
@[simp] theorem settled_keyAvailable : Kind.keyAvailable.settled = false := by decide
@[simp] theorem settled_adapterChanged : Kind.adapterChanged.settled = false := by decide

/-- Every entry's level and mask, and the settled kinds' entries whole. -/
def kept (s : State) : (Kind → Nat × Bool) × (Kind → Option EventEntry) :=
  (controls s, fun k => if k.settled then some (s.entry k) else none)

theorem kept_mapEntry (s : State) (k : Kind) (f : EventEntry → EventEntry) (hk : k.settled = false)
    (h : controls (s.mapEntry k f) = controls s) : kept (s.mapEntry k f) = kept s := by
  unfold kept; rw [h]; congr 1; funext j
  by_cases hj : j = k
  · subst hj; simp [hk]
  · simp [entry_mapEntry, hj]

theorem kept_latch (s : State) (k : Kind) (p : Payload) (hk : k.settled = false) : kept (latch k p s) = kept s :=
  kept_mapEntry s k _ hk (controls_latch s k p)

theorem kept_endCondition (s : State) (k : Kind) (hk : k.settled = false) : kept (endCondition k s) = kept s :=
  kept_mapEntry s k _ hk (controls_endCondition s k)

theorem entry_of_kept {s t : State} (h : kept t = kept s) {k : Kind} (hk : k.settled = true) : t.entry k = s.entry k := by
  have := congrFun (congrArg Prod.snd h) k
  simpa [kept, hk] using this

end Sys2Proof.Machine
end

