-- ==== Sys2Proof/Laws/ChargeFrame.lean ====
section
/-! SUPPORT. What the pack table's and the charge controller's operations leave alone: everything but the charge
controller, the pack bus, the pack table and the pending entries of the event table. -/
namespace Sys2Proof.Machine

/-- All that the charge controller's operations leave alone. -/
def outer (s : State) :
    State × (Nat × Option Nat × Option Nat) × (Kind → Nat × Bool) × (Kind → Option EventEntry) :=
  ({ s with chg := State.reset.chg, bus := State.reset.bus, packs := State.reset.packs, notice := State.reset.notice },
    (s.notice.floor, s.notice.critWindow, s.notice.tripWindow), kept s)

theorem foldl_same {α β : Type} (g : State → β) (f : State → α → State) (h : ∀ s a, g (f s a) = g s) (l : List α)
    (s : State) : g (l.foldl f s) = g s := by
  induction l generalizing s with
  | nil => rfl
  | cons a l ih => exact (ih (f s a)).trans (h s a)

variable (s : State)

@[simp] theorem outer_mapChg (f : Charger → Charger) : outer (s.mapChg f) = outer s := rfl
@[simp] theorem outer_mapPack (k : Slot) (f : PackSlot → PackSlot) : outer (s.mapPack k f) = outer s := rfl
@[simp] theorem outer_mapItem (k : Slot) (i : DynItem) (f : PollEntry → PollEntry) : outer (s.mapItem k i f) = outer s := rfl
@[simp] theorem outer_mapBus (f : Bus → Bus) : outer (s.mapBus f) = outer s := rfl

@[simp] theorem outer_latch (k : Kind) (p : Payload) (h : k.settled = false) : outer (latch k p s) = outer s := by
  simp only [outer, kept_latch s k p h]; rfl

@[simp] theorem outer_endCondition (k : Kind) (h : k.settled = false) : outer (endCondition k s) = outer s := by
  simp only [outer, kept_endCondition s k h]; rfl

@[simp] theorem outer_enqueue (k : Slot) (i : Item) (due : Nat) : outer (enqueue k i due s) = outer s := by
  unfold enqueue; split <;> rfl

@[simp] theorem outer_dequeueWhere (drop : QueueEntry → Bool) : outer (dequeueWhere drop s) = outer s := rfl

@[simp] theorem outer_enqueueIfDue (k : Slot) (i : DynItem) : outer (enqueueIfDue k i s) = outer s := by
  unfold enqueueIfDue; split <;> simp

@[simp] theorem outer_enqueueDue : outer (enqueueDue s) = outer s :=
  foldl_same outer _ (fun t k => foldl_same outer _ (fun u i => outer_enqueueIfDue u k i) _ t) _ s

@[simp] theorem outer_judgeValidity : outer (judgeValidity s) = outer s := rfl

@[simp] theorem outer_redateItem (k : Slot) (i : DynItem) : outer (redateItem k i s) = outer s := by
  unfold redateItem; dsimp only; split
  · split <;> simp
  · rfl
@[simp] theorem outer_redateSlot (k : Slot) : outer (redateSlot s k) = outer s := by
  unfold redateSlot; split
  · rfl
  · rw [foldl_same outer _ (fun t i => outer_redateItem t k i)]; rfl
@[simp] theorem outer_redateQueue : outer (redateQueue s) = outer s := foldl_same outer _ (fun t k => outer_redateSlot t k) _ s
@[simp] theorem outer_refreshPeriods : outer (refreshPeriods s) = outer s := by simp [refreshPeriods]

@[simp] theorem outer_chooseSource : outer (chooseSource s) = outer s := by unfold chooseSource; split <;> simp

theorem outer_changePack (k : Slot) (f : State → State) (h : outer (f s) = outer s) :
    outer (changePack k f s) = outer s := by
  unfold changePack; dsimp only; split <;> simp [h]

@[simp] theorem outer_putPhase (k : Slot) (p : ChargePhase) : outer (putPhase k p s) = outer s := rfl

@[simp] theorem outer_startSession (k : Slot) : outer (startSession k s) = outer s := outer_changePack s k _ rfl

@[simp] theorem outer_putCal (r : CalRecord) : outer (putCal r s) = outer s := by
  unfold putCal; dsimp only; split <;> simp

@[simp] theorem outer_endCal (o : CalOutcome) (c : Option CalCause) : outer (endCal o c s) = outer s := by
  unfold endCal; split <;> simp

@[simp] theorem outer_beginRest : outer (beginRest s) = outer s := by simp [beginRest]

@[simp] theorem outer_testDischarge (k : Slot) : outer (testDischarge k s) = outer s := by
  unfold testDischarge; split <;> simp
@[simp] theorem outer_testAtFlags (b : State) (k : Slot) : outer (testAtFlags b k s) = outer s := by
  unfold testAtFlags; split <;> simp

@[simp] theorem outer_enterDone (k : Slot) : outer (enterDone k s) = outer s := by
  have h := outer_changePack s k (fun s => s.mapChg fun c =>
    { c with packs := c.packs.set k { (c.packs.get k) with phase := .done, doneRsoc := lastValue s k .rsoc } }) rfl
  unfold enterDone; dsimp only; split
  · rw [outer_endCal]; exact h
  · exact h

@[simp] theorem outer_judgeHold (k : Slot) : outer (judgeHold k s) = outer s := by
  unfold judgeHold
  refine outer_changePack s k _ ?_
  dsimp only
  split
  · split <;> simp
  · simp

@[simp] theorem outer_decideQualify (k : Slot) : outer (decideQualify k s) = outer s := by
  unfold decideQualify
  split
  · split
    · exact outer_changePack s k _ (by simp)
    · rfl
  · rfl

@[simp] theorem outer_sessionPass : outer (sessionPass s) = outer s := by
  unfold sessionPass
  split
  · rfl
  · split
    · split <;> simp
    · rfl

@[simp] theorem outer_dropSelection : outer (dropSelection s) = outer s := by
  unfold dropSelection
  split
  · rfl
  · dsimp only
    rw [outer_dequeueWhere]
    exact outer_changePack s _ _ (by simp)

@[simp] theorem outer_takeSelection (k : Slot) : outer (takeSelection k s) = outer s := by
  unfold takeSelection
  dsimp only
  split
  · simp
  · rw [outer_changePack _ _ _ (by simp)]; simp

@[simp] theorem outer_choosePack : outer (choosePack s) = outer s := by
  unfold choosePack
  split
  · rfl
  · split <;> simp

@[simp] theorem outer_followChargeVoltage : outer (followChargeVoltage s) = outer s := by
  unfold followChargeVoltage
  split
  · split
    · split <;> simp
    · rfl
  · rfl

@[simp] theorem outer_applyCurrent : outer (applyCurrent s) = outer s := rfl
@[simp] theorem outer_chargeRound : outer (chargeRound s) = outer s := by simp [chargeRound]
@[simp] theorem outer_settleOnce : outer (settleOnce s) = outer s := by simp [settleOnce]

/-- Settling leaves alone all that `outer` shows. -/
@[simp] theorem outer_settleTwice : outer (settleTwice s) = outer s := by
  unfold settleTwice; dsimp only; split <;> simp
@[simp] theorem outer_holdAtLast : outer (holdAtLast s) = outer s := by
  unfold holdAtLast; split
  · rfl
  · split <;> simp
@[simp] theorem outer_settleCharge : outer (settleCharge s) = outer s := by simp [settleCharge]

@[simp] theorem outer_suspend (f : Suspension → Suspension) : outer (suspend f s) = outer s := by simp [suspend]

@[simp] theorem outer_suspendByPlatform : outer (suspendByPlatform s) = outer s := by
  unfold suspendByPlatform; split <;> simp

@[simp] theorem outer_enterFault (k : Slot) (c : ChargeFault) : outer (enterFault k c s) = outer s := by
  have h := outer_changePack s k (fun s =>
    s.mapChg fun g => { g with packs := g.packs.set k { ((g.packs.get k).withPhase .fault) with fault := c } }) rfl
  unfold enterFault; dsimp only; split
  · rw [outer_endCal]; exact h
  · exact h

@[simp] theorem outer_applyLimits (stop start : Nat) : outer (applyLimits stop start s) = outer s := by simp [applyLimits]
@[simp] theorem outer_toggleLimits : outer (toggleLimits s) = outer s := by unfold toggleLimits; split <;> simp

@[simp] theorem outer_latchStanding : outer (latchStanding s) = outer s := by
  unfold latchStanding; dsimp only; split <;> split <;> split <;> simp

@[simp] theorem outer_rearmLow : outer (rearmLow s) = outer s := by
  unfold rearmLow; split
  · rfl
  · split <;> simp

@[simp] theorem outer_latchLow (old new : EnergyLevel) : outer (latchLow old new s) = outer s := by
  unfold latchLow; split <;> simp

@[simp] theorem outer_suspendByAdapter (lost : Bool) : outer (suspendByAdapter lost s) = outer s := by
  unfold suspendByAdapter; split <;> simp

@[simp] theorem outer_readClass (code : Nat) : outer (readClass code s) = outer s := by simp [readClass]

@[simp] theorem outer_leaveFault (k : Slot) : outer (leaveFault k s) = outer s := by
  unfold leaveFault; split
  · exact outer_changePack s k _ rfl
  · rfl

@[simp] theorem outer_budgetHold : outer (budgetHold s) = outer s := by
  unfold budgetHold; split
  · rfl
  · split <;> simp

/-! ### Pack bus operations -/

@[simp] theorem outer_startSchedule (k : Slot) : outer (startSchedule k s) = outer s := by
  unfold startSchedule
  dsimp only
  rw [foldl_same outer _ (fun t i => by split <;> simp)]
  simp

@[simp] theorem outer_enterCommLost (k : Slot) : outer (enterCommLost k s) = outer s := by
  unfold enterCommLost; dsimp only; split <;> simp

@[simp] theorem outer_returnFromLost (k : Slot) : outer (returnFromLost k s) = outer s := rfl

@[simp] theorem outer_dropIdentity (k : Slot) : outer (dropIdentity k s) = outer s := rfl

@[simp] theorem outer_temperatureRead (k : Slot) (t : Int) : outer (temperatureRead k t s) = outer s := by
  unfold temperatureRead; dsimp only; split
  · split
    · simp
    · split <;> simp
  · simp

@[simp] theorem outer_voltageRead (k : Slot) (v : Nat) : outer (voltageRead k v s) = outer s := by
  unfold voltageRead; split
  · split
    · exact outer_changePack s k _ rfl
    · rfl
  · split
    · exact outer_changePack s k _ rfl
    · rfl
  · rfl

@[simp] theorem outer_currentRead (k : Slot) (i : Int) : outer (currentRead k i s) = outer s := by
  unfold currentRead; split <;> simp

@[simp] theorem outer_statusWritten (k : Slot) (a b : BitVec 8) : outer (statusWritten k a b s) = outer s := by
  unfold statusWritten; split <;> simp

@[simp] theorem outer_requestRead (k : Slot) (i : DynItem) : outer (requestRead k i s) = outer s := by
  unfold requestRead; split <;> simp

@[simp] theorem outer_chargeRead (k : Slot) (i : DynItem) (old : BitVec 8) (w : BitVec 16) :
    outer (chargeRead k i old w s) = outer s := by
  unfold chargeRead; split <;> (try split) <;> simp

@[simp] theorem outer_storeItem (k : Slot) (i : DynItem) (w : BitVec 16) : outer (storeItem k i w s) = outer s := by
  unfold storeItem; dsimp only; split <;> simp

@[simp] theorem outer_afterFailure (k : Slot) : outer (afterFailure k s) = outer s := by
  unfold afterFailure; split <;> (try split) <;> simp

@[simp] theorem outer_recoverBus : outer (recoverBus s) = outer s := rfl
@[simp] theorem outer_recoverAfter (r : AttemptResult) : outer (recoverAfter r s) = outer s := by
  unfold recoverAfter; split <;> simp

@[simp] theorem outer_startAttempt : outer (startAttempt s) = outer s := by unfold startAttempt; split <;> rfl
@[simp] theorem outer_badAlarm (k : Slot) : outer (badAlarm k s) = outer s := rfl

@[simp] theorem outer_itemDue (k : Slot) (i : DynItem) : outer (itemDue k i s) = outer s := by
  unfold itemDue; split <;> simp

@[simp] theorem outer_retryIdentity (k : Slot) : outer (retryIdentity k s) = outer s := by
  unfold retryIdentity; split <;> simp

@[simp] theorem outer_placeFreshRead (k : Slot) : outer (placeFreshRead k s) = outer s := rfl

/-! ### Reading a field off the frame -/

variable {s} {t : State}

theorem pwr_of_outer (h : outer t = outer s) : t.pwr = s.pwr := congrArg (fun p => p.1.pwr) h
theorem post_of_outer (h : outer t = outer s) : t.post = s.post := congrArg (fun p => p.1.post) h
theorem kbd_of_outer (h : outer t = outer s) : t.kbd = s.kbd := congrArg (fun p => p.1.kbd) h
theorem bud_of_outer (h : outer t = outer s) : t.bud = s.bud := congrArg (fun p => p.1.bud) h
theorem thr_of_outer (h : outer t = outer s) : t.thr = s.thr := congrArg (fun p => p.1.thr) h
theorem link_of_outer (h : outer t = outer s) : t.link = s.link := congrArg (fun p => p.1.link) h
theorem store_of_outer (h : outer t = outer s) : t.store = s.store := congrArg (fun p => p.1.store) h
theorem pins_of_outer (h : outer t = outer s) : t.pins = s.pins := congrArg (fun p => p.1.pins) h
theorem now_of_outer (h : outer t = outer s) : t.now = s.now := congrArg (fun p => p.1.now) h
theorem free_of_outer (h : outer t = outer s) : t.free = s.free := congrArg (fun p => p.1.free) h
theorem pending_of_outer (h : outer t = outer s) : t.pending = s.pending := congrArg (fun p => p.1.pending) h
theorem kept_of_outer (h : outer t = outer s) : kept t = kept s := congrArg (fun p => p.2.2) h
theorem controls_of_outer (h : outer t = outer s) : controls t = controls s := congrArg (fun p => p.2.2.1) h
theorem floor_of_outer (h : outer t = outer s) : t.notice.floor = s.notice.floor := congrArg (fun p => p.2.1.1) h
theorem critWindow_of_outer (h : outer t = outer s) : t.notice.critWindow = s.notice.critWindow :=
  congrArg (fun p => p.2.1.2.1) h
theorem tripWindow_of_outer (h : outer t = outer s) : t.notice.tripWindow = s.notice.tripWindow :=
  congrArg (fun p => p.2.1.2.2) h

end Sys2Proof.Machine
end

