-- ==== Sys2Proof/Laws/Frame.lean ====
section
/-! SUPPORT. What every operation but the link's, the resets and the policy writes leaves alone: the waiting commands, the
clock, the programming in progress, the stored regions and the active policy, the attention floor, and every level and
mask. -/
namespace Sys2Proof.Machine

/-- The programming in progress (R193): a host fresh read is not one. -/
def programming (l : Link) : Option Processing :=
  match l.processing with
  | some (.freshRead _ _ _) => none
  | other => other

/-- All that the operations below leave alone. -/
def core (s : State) : (List Instr × Nat × Nat) × Option Processing × Store × Nat × (Kind → Nat × Bool) :=
  ((s.pending, s.now, s.free), programming s.link, { s.store with marker := false }, s.notice.floor, controls s)

theorem core_of_outer {s t : State} (h : outer t = outer s) : core t = core s := by
  simp only [core, pending_of_outer h, now_of_outer h, free_of_outer h, link_of_outer h, store_of_outer h,
    floor_of_outer h, controls_of_outer h]

variable (s : State)

@[simp] theorem core_mapPwr (f : Sequencer → Sequencer) : core (s.mapPwr f) = core s := rfl
@[simp] theorem core_mapPost (f : PostureMonitor → PostureMonitor) : core (s.mapPost f) = core s := rfl
@[simp] theorem core_mapKbd (f : Keyboard → Keyboard) : core (s.mapKbd f) = core s := rfl
@[simp] theorem core_mapBus (f : Bus → Bus) : core (s.mapBus f) = core s := rfl
@[simp] theorem core_mapChg (f : Charger → Charger) : core (s.mapChg f) = core s := rfl
@[simp] theorem core_mapBud (f : Budget → Budget) : core (s.mapBud f) = core s := rfl
@[simp] theorem core_mapThr (f : Thermal → Thermal) : core (s.mapThr f) = core s := rfl
@[simp] theorem core_mapPack (k : Slot) (f : PackSlot → PackSlot) : core (s.mapPack k f) = core s := rfl
@[simp] theorem core_mapRail (r : Rail) (f : RailEntry → RailEntry) : core (s.mapRail r f) = core s := rfl
@[simp] theorem core_mapSensor (k : Sensor) (f : SensorRec → SensorRec) : core (s.mapSensor k f) = core s := rfl
@[simp] theorem core_mapFans (f : Fan → FanRec → FanRec) : core (s.mapFans f) = core s := rfl
@[simp] theorem core_latch (k : Kind) (p : Payload) : core (latch k p s) = core s := by
  unfold core; rw [controls_latch]; rfl
@[simp] theorem core_endCondition (k : Kind) : core (endCondition k s) = core s := by
  unfold core; rw [controls_endCondition]; rfl
@[simp] theorem core_settleCharge : core (settleCharge s) = core s := core_of_outer (outer_settleCharge s)
@[simp] theorem core_suspendByPlatform : core (suspendByPlatform s) = core s := core_of_outer (outer_suspendByPlatform s)
@[simp] theorem core_latchStanding : core (latchStanding s) = core s := core_of_outer (outer_latchStanding s)
@[simp] theorem core_rearmLow : core (rearmLow s) = core s := core_of_outer (outer_rearmLow s)
@[simp] theorem core_latchLow (a b : EnergyLevel) : core (latchLow a b s) = core s := core_of_outer (outer_latchLow s a b)
@[simp] theorem core_enqueue (k : Slot) (i : Item) (d : Nat) : core (enqueue k i d s) = core s :=
  core_of_outer (outer_enqueue s k i d)

/-! ### Notice unit -/

@[simp] theorem core_setWindow (w : EscalationWindow) (left : Option Nat) : core (setWindow w left s) = core s := by
  cases w <;> rfl

@[simp] theorem core_startWindow (w : EscalationWindow) : core (startWindow w s) = core s := by
  unfold startWindow; split <;> simp

@[simp] theorem core_stopWindows : core (stopWindows s) = core s := rfl

@[simp] theorem core_startWindowsAtRun : core (startWindowsAtRun s) = core s := by
  unfold startWindowsAtRun; dsimp only; split <;> split <;> simp

/-! ### Thermal controller -/

@[simp] theorem core_convertSensor (k : Sensor) (code : Nat) : core (convertSensor k code s) = core s := by
  unfold convertSensor; dsimp only; split
  · simp
  · split
    · simp
    · split <;> simp

@[simp] theorem core_judgeWarn (k : Sensor) : core (judgeWarn k s) = core s := by
  unfold judgeWarn; split
  · dsimp only; split <;> simp
  · rfl

@[simp] theorem core_judgeSensor (k : Sensor) : core (judgeSensor k s) = core s := by
  unfold judgeSensor; split <;> simp

@[simp] theorem core_judgeSensors : core (judgeSensors s) = core s := foldl_same core _ (fun t k => core_judgeSensor t k) _ s

@[simp] theorem core_computeH : core (computeH s) = core s := rfl
@[simp] theorem core_raiseToFloor : core (raiseToFloor s) = core s := rfl
@[simp] theorem core_fansFull : core (fansFull s) = core s := rfl
@[simp] theorem core_updateCurves : core (updateCurves s) = core s := rfl
@[simp] theorem core_driveFans : core (driveFans s) = core s := by unfold driveFans; split <;> simp
@[simp] theorem core_fanStep : core (fanStep s) = core s := by unfold fanStep; split <;> simp
@[simp] theorem core_setFanMode (m : FanMode) : core (setFanMode m s) = core s := by simp [setFanMode]
@[simp] theorem core_toggleBoost : core (toggleBoost s) = core s := by simp [toggleBoost]
@[simp] theorem core_toggleQuiet : core (toggleQuiet s) = core s := by simp [toggleQuiet]
@[simp] theorem core_resetFanMode : core (resetFanMode s) = core s := by simp [resetFanMode]
@[simp] theorem core_thermalPosture : core (thermalPosture s) = core s := by simp [thermalPosture]

/-! ### Scanner -/

@[simp] theorem core_setPosition (p : Nat) (r : PosRec) : core (setPosition p r s) = core s := rfl
@[simp] theorem core_setDisposition (p : Nat) (d : Disposition) : core (setDisposition p d s) = core s := rfl

@[simp] theorem core_pushRecord (c : Byte) (a : KeyAction) (l : Layer) : core (pushRecord c a l s) = core s := by
  unfold pushRecord; split
  · simp
  · dsimp only; split <;> simp

@[simp] theorem core_clearQueue : core (clearQueue s) = core s := by unfold clearQueue; dsimp only; split <;> simp

@[simp] theorem core_pushHeld (a : KeyAction) (held : List HeldKey) : core (pushHeld a held s) = core s :=
  foldl_same core _ (fun t _ => core_pushRecord t _ _ _) _ s

@[simp] theorem core_pushResync : core (pushResync s) = core s := by simp [pushResync]
@[simp] theorem core_beginSuppression : core (beginSuppression s) = core s := by simp [beginSuppression]
@[simp] theorem core_testSuppression : core (testSuppression s) = core s := by
  unfold testSuppression; split
  · split <;> simp
  · simp
@[simp] theorem core_stopScan : core (stopScan s) = core s := rfl
@[simp] theorem core_restInSleep : core (restInSleep s) = core s := by unfold restInSleep; split <;> simp
@[simp] theorem core_followScanMode : core (followScanMode s) = core s := by
  unfold followScanMode; split <;> (try split) <;> simp
@[simp] theorem core_restartIdle : core (restartIdle s) = core s := rfl
@[simp] theorem core_undim : core (undim s) = core s := rfl
@[simp] theorem core_followBacklight : core (followBacklight s) = core s := by
  unfold followBacklight; split <;> simp
@[simp] theorem core_keyboardDefaults : core (keyboardDefaults s) = core s := rfl
@[simp] theorem core_keyboardWarmReset : core (keyboardWarmReset s) = core s := by simp [keyboardWarmReset]
@[simp] theorem core_keyboardOffEntry : core (keyboardOffEntry s) = core s := by simp [keyboardOffEntry]

/-! ### Sequencer -/

@[simp] theorem core_setMarker (b : Bool) : core (s.mapStore fun c => { c with marker := b }) = core s := rfl

@[simp] theorem core_followWindows (old : PlatformState) : core (followWindows old s) = core s := by
  unfold followWindows; split
  · simp
  · split <;> simp

@[simp] theorem core_changeState (new : PlatformState) : core (changeState new s) = core s := by simp [changeState]

@[simp] theorem core_reachRun : core (reachRun s) = core s := by
  unfold reachRun; dsimp only; rw [core_latch, core_setMarker]; simp

@[simp] theorem core_enableFrom (l : List Rail) : core (enableFrom l s) = core s := by
  induction l generalizing s with
  | nil => exact core_reachRun s
  | cons r l ih => unfold enableFrom; dsimp only; split <;> simp [ih]

@[simp] theorem core_startPowerUp (c : WakeCause) : core (startPowerUp c s) = core s := by simp [startPowerUp]
@[simp] theorem core_startResume (c : WakeCause) : core (startResume c s) = core s := by simp [startResume]
@[simp] theorem core_reachSleep : core (reachSleep s) = core s := by
  unfold reachSleep; dsimp only; split <;> simp

@[simp] theorem core_noticeOffEntry : core (noticeOffEntry s) = core s := by
  unfold noticeOffEntry
  dsimp only
  rw [core_latchStanding, core_stopWindows]
  have hc : controls { s with notice := { s.notice with table := s.notice.table.map fun k e =>
      if k = .railEvent then e else { e with pending := false, count := 0 } } } = controls s := by
    funext j
    simp only [controls, State.entry, PerKind.get_map]
    split <;> rfl
  simp only [core, hc]

@[simp] theorem core_budgetDefaults : core (budgetDefaults s) = core s := rfl

@[simp] theorem core_offEntry : core (offEntry s) = core s := by
  unfold offEntry
  dsimp only
  rw [core_noticeOffEntry, core_resetFanMode, core_keyboardOffEntry, core_mapBud, core_budgetDefaults, core_setMarker]
  simp

@[simp] theorem core_endOfDown : core (endOfDown s) = core s := by unfold endOfDown; split <;> simp

@[simp] theorem core_disableFrom (l : List Rail) : core (disableFrom l s) = core s := by
  induction l generalizing s with
  | nil => exact core_endOfDown s
  | cons r l ih =>
    unfold disableFrom; dsimp only; split
    · split <;> simp [ih]
    · exact ih s

@[simp] theorem core_endDownWait (r : Rail) (o : RailOutcome) : core (endDownWait r o s) = core s := by simp [endDownWait]
@[simp] theorem core_startPowerDown (c : DownCause) : core (startPowerDown c s) = core s := by
  unfold startPowerDown; dsimp only; split <;> simp
@[simp] theorem core_startSleepEntry : core (startSleepEntry s) = core s := by simp [startSleepEntry]
@[simp] theorem core_startTransition (x : PowerTarget) : core (startTransition x s) = core s := by
  unfold startTransition; dsimp only; split <;> simp
@[simp] theorem core_railFault (r : Rail) (p : FaultPhase) (o : RailOutcome) : core (railFault r p o s) = core s := by
  simp [railFault]
@[simp] theorem core_showRefusal : core (showRefusal s) = core s := rfl
@[simp] theorem core_refusePower (c : RefusalCause) : core (refusePower c s) = core s := by simp [refusePower]
@[simp] theorem core_powerOnRequest (c : WakeCause) : core (powerOnRequest c s) = core s := by
  unfold powerOnRequest; split
  · simp
  · split <;> simp
@[simp] theorem core_takeWake (c : WakeCause) : core (takeWake c s) = core s := by
  unfold takeWake; split
  · simp
  · split <;> simp
  · rfl
@[simp] theorem core_wakeEvent (c : WakeCause) : core (wakeEvent c s) = core s := by unfold wakeEvent; split <;> simp
@[simp] theorem core_force (c : DownCause) : core (force c s) = core s := by unfold force; split <;> simp
@[simp] theorem core_sequenceAttach : core (sequenceAttach s) = core s := by
  unfold sequenceAttach; split <;> (try split) <;> simp

/-! ### Energy, adapter and packs -/

@[simp] theorem core_noticeCritical (a b : EnergyLevel) : core (noticeCritical a b s) = core s := by
  unfold noticeCritical; split
  · dsimp only; split <;> simp
  · split <;> simp
@[simp] theorem core_sequenceCritical (n : EnergyLevel) : core (sequenceCritical n s) = core s := by
  unfold sequenceCritical; split <;> simp
@[simp] theorem core_judgeEnergy : core (judgeEnergy s) = core s := by
  unfold judgeEnergy; split
  · dsimp only; split <;> simp
  · rfl
@[simp] theorem core_packEvent : core (packEvent s) = core s := by simp [packEvent]

@[simp] theorem core_suspendByAdapter (b : Bool) : core (suspendByAdapter b s) = core s :=
  core_of_outer (outer_suspendByAdapter s b)
@[simp] theorem core_leaveFault (k : Slot) : core (leaveFault k s) = core s := core_of_outer (outer_leaveFault s k)
@[simp] theorem core_attachAdapter : core (attachAdapter s) = core s := by simp [attachAdapter]
@[simp] theorem core_removeAdapter : core (removeAdapter s) = core s := by simp [removeAdapter]
@[simp] theorem core_packChanged (k : Slot) : core (packChanged k s) = core s := by simp [packChanged]
@[simp] theorem core_acceptPack (k : Slot) : core (acceptPack k s) = core s := by
  simp only [acceptPack, core_packChanged]; rw [core_of_outer (outer_startSchedule _ k)]; simp
@[simp] theorem core_returnFromLost (k : Slot) : core (returnFromLost k s) = core s :=
  core_of_outer (outer_returnFromLost s k)
@[simp] theorem core_announceReturn (k : Slot) (q : Option SlotState) : core (announceReturn k q s) = core s := by
  unfold announceReturn; split <;> simp

@[simp] theorem core_freeBus : core (freeBus s) = core s := by
  unfold freeBus; split
  · split
    · dsimp only; split
      · rename_i h
        replace h : s.link.processing = _ := h
        simp only [core, programming, h]; rfl
      · simp
    · simp
  · simp

@[simp] theorem core_endRead (k : Slot) (i : Item) : core (endRead k i s) = core s := by
  unfold endRead; split
  · rw [core_of_outer (outer_mapItem _ k _ _)]; simp
  · simp

@[simp] theorem core_readSucceeds (k : Slot) (i : Item) (b : List Byte) : core (readSucceeds k i b s) = core s := by
  unfold readSucceeds; dsimp only; rw [core_packEvent]; split
  · rw [core_of_outer (outer_testDischarge _ k), core_announceReturn, core_of_outer (outer_chargeRead _ k _ _ _),
      core_of_outer (outer_storeItem _ k _ _)]
    simp
  · split <;> simp

@[simp] theorem core_settleFailure (k : Slot) (was : SlotState) : core (settleFailure k was s) = core s := by
  unfold settleFailure; split <;> simp

@[simp] theorem core_readFails (k : Slot) (i : Item) (p : BusPhase) (o : FaultOutcome) :
    core (readFails k i p o s) = core s := by
  unfold readFails; dsimp only
  rw [core_settleFailure, core_of_outer (outer_afterFailure _ k)]; simp

@[simp] theorem core_countAttempt (r : CurrentRead) (p : BusPhase) (o : FaultOutcome) :
    core (countAttempt r p o s) = core s := by unfold countAttempt; split <;> simp

@[simp] theorem core_endAttempt (r : AttemptResult) : core (endAttempt r s) = core s := by
  have h : core (recoverAfter r s) = core s := core_of_outer (outer_recoverAfter s r)
  unfold endAttempt; split
  · rfl
  · split
    · rfl
    · dsimp only; split
      · simp [h]
      · split <;> (try split) <;> simp [h]

@[simp] theorem core_startAttempt : core (startAttempt s) = core s := core_of_outer (outer_startAttempt s)

@[simp] theorem core_endFreshRead (k : Slot) : core (endFreshRead k s) = core s := by
  unfold endFreshRead; split
  · rename_i h; split
    · simp only [core, programming, h]; rfl
    · rfl
  · rfl

@[simp] theorem core_emptySlot (k : Slot) : core (emptySlot k s) = core s := by
  unfold emptySlot; dsimp only
  rw [core_packEvent, core_packChanged, core_of_outer (outer_changePack _ k _ rfl)]
  split
  · rw [core_of_outer (outer_endCal _ _ _)]; simp
  · simp

@[simp] theorem core_insertPack (k : Slot) : core (insertPack k s) = core s := by simp [insertPack]

@[simp] theorem core_goodAlarm (k : Slot) (w : BitVec 16) : core (goodAlarm k w s) = core s := by
  unfold goodAlarm; dsimp only
  rw [core_packEvent, core_of_outer (outer_testDischarge _ k), core_of_outer (outer_statusWritten _ k _ _)]
  have h : core (storeItem k .status w (s.mapPack k fun p => { p with alarm := flagsOf w })) = core s := by
    rw [core_of_outer (outer_storeItem _ k _ _)]; simp
  split <;> simp [h]

@[simp] theorem core_judgeAlarm (b : List Byte) : core (judgeAlarm b s) = core s := by
  unfold judgeAlarm; split
  · rfl
  · split
    · simp
    · exact core_of_outer (outer_badAlarm s _)

@[simp] theorem core_itemDue (k : Slot) (i : DynItem) : core (itemDue k i s) = core s := core_of_outer (outer_itemDue s k i)

@[simp] theorem core_itemStale (k : Slot) (i : DynItem) : core (itemStale k i s) = core s := by
  unfold itemStale; split
  · dsimp only; rw [core_packEvent, core_of_outer (outer_testDischarge _ k), core_of_outer (outer_mapItem _ k i _)]
  · rfl

@[simp] theorem core_retryIdentity (k : Slot) : core (retryIdentity k s) = core s :=
  core_of_outer (outer_retryIdentity s k)

/-! ### Posture monitor -/

@[simp] theorem core_latchPosture : core (latchPosture s) = core s := by simp [latchPosture]
@[simp] theorem core_lidOpen (q : Posture) : core (lidOpen q s) = core s := by unfold lidOpen; split <;> simp
@[simp] theorem core_commit (c : Posture) : core (commit c s) = core s := by simp [commit]
@[simp] theorem core_holdConflict : core (holdConflict s) = core s := by unfold holdConflict; split <;> simp
@[simp] theorem core_settleCandidate (b : Bool) : core (settleCandidate b s) = core s := by
  unfold settleCandidate; split <;> simp
@[simp] theorem core_evaluate : core (evaluate s) = core s := by
  unfold evaluate; split
  · rfl
  · split
    · split
      · split <;> simp
      · simp
    · simp
@[simp] theorem core_enterHallOnly : core (enterHallOnly s) = core s := by
  unfold enterHallOnly; dsimp only; split <;> simp
@[simp] theorem core_returnToAngle : core (returnToAngle s) = core s := by simp [returnToAngle]
@[simp] theorem core_takeAngle (a : Nat) : core (takeAngle a s) = core s := by simp [takeAngle]
@[simp] theorem core_takeRailFault : core (takeRailFault s) = core s := by
  unfold takeRailFault; dsimp only; split <;> simp

/-! ### Budget and thermal events -/

@[simp] theorem core_budgetEvents (a b : Budget) (x : Bool) : core (budgetEvents a b x s) = core s := by
  unfold budgetEvents
  simp only [apply_ite core, core_latch, core_endCondition, ite_self]
@[simp] theorem core_evaluateBudget : core (evaluateBudget s) = core s := by
  unfold evaluateBudget; dsimp only; rw [core_settleCharge, core_of_outer (outer_budgetHold _)]; simp
@[simp] theorem core_boundLimit : core (boundLimit s) = core s := by unfold boundLimit; dsimp only; split <;> simp
@[simp] theorem core_noticeTrip (o : State) : core (noticeTrip o s) = core s := by
  unfold noticeTrip; split
  · rfl
  · split
    · dsimp only; split <;> simp
    · simp
@[simp] theorem core_handHard (o : State) : core (handHard o s) = core s := by
  unfold handHard; split
  · rfl
  · split <;> simp
@[simp] theorem core_afterCrossings (o : State) : core (afterCrossings o s) = core s := by simp [afterCrossings]
@[simp] theorem core_conversionRound (a b c d : Nat) : core (conversionRound a b c d s) = core s := by
  simp [conversionRound, convertRound]
@[simp] theorem core_rejudgeThermal : core (rejudgeThermal s) = core s := by simp [rejudgeThermal]
@[simp] theorem core_afterStall (o : State) : core (afterStall o s) = core s := by
  unfold afterStall; split
  · rfl
  · dsimp only; split <;> simp
@[simp] theorem core_tachWindow (a b : Nat) : core (tachWindow a b s) = core s := by
  simp only [tachWindow, openWindow, core_mapFans, core_afterStall]

/-! ### Scans -/

@[simp] theorem core_debounce (raw : Nat → Bool) : core (debounce raw s) = core s :=
  foldl_same core _ (fun t p => core_setPosition t p _) _ s
@[simp] theorem core_runHotkey (a : HotkeyAction) : core (runHotkey a s) = core s := by
  unfold runHotkey; split <;> dsimp only
  · rw [core_latch, core_toggleBoost]
  · rw [core_latch, core_toggleQuiet]
  · rw [core_latch]; rfl
  · rw [core_latch, core_of_outer (outer_toggleLimits _)]
@[simp] theorem core_reportPress (p : Nat) (c : Byte) (l : Layer) : core (reportPress p c l s) = core s := by
  unfold reportPress; split <;> simp
@[simp] theorem core_acceptPress (p : Nat) : core (acceptPress p s) = core s := by
  unfold acceptPress; dsimp only; split
  · simp
  · split
    · simp
    · split <;> simp
@[simp] theorem core_latentPress (p : Nat) : core (latentPress p s) = core s := by
  unfold latentPress; dsimp only; split <;> simp
@[simp] theorem core_takePress (p : Nat) : core (takePress p s) = core s := by
  unfold takePress; dsimp only; split
  · simp
  · split <;> simp
@[simp] theorem core_releaseReported (p : Nat) : core (releaseReported p s) = core s := by
  unfold releaseReported; split <;> simp
@[simp] theorem core_takeRelease (p : Nat) : core (takeRelease p s) = core s := by
  unfold takeRelease; dsimp only; split <;> simp
@[simp] theorem core_recheck (p : Nat) : core (recheck p s) = core s := by unfold recheck; split <;> simp
@[simp] theorem core_judgeQuiet : core (judgeQuiet s) = core s := by unfold judgeQuiet; split <;> simp
@[simp] theorem core_scanMatrix (raw : Nat → Bool) : core (scanMatrix raw s) = core s := by
  unfold scanMatrix; dsimp only
  rw [core_restInSleep, core_judgeQuiet, foldl_same core _ (fun t p => core_recheck t p),
    foldl_same core _ (fun t p => core_takePress t p), foldl_same core _ (fun t p => core_takeRelease t p),
    core_debounce]

/-! ### Sequencer commands -/

@[simp] theorem core_acceptTransition (x : PowerTarget) : core (acceptTransition x s) = core s := by
  unfold acceptTransition; dsimp only; split <;> simp
@[simp] theorem core_shortPressAction : core (shortPressAction s) = core s := by
  unfold shortPressAction; split <;> (try split) <;> simp
@[simp] theorem core_longPressAction : core (longPressAction s) = core s := by
  unfold longPressAction; split <;> simp
@[simp] theorem core_railRises (r : Rail) : core (railRises r s) = core s := by
  unfold railRises; dsimp only; split
  · simp
  · split <;> simp
@[simp] theorem core_railFalls (r : Rail) : core (railFalls r s) = core s := by
  unfold railFalls; dsimp only; split
  · simp
  · split
    · simp
    · split
      · split <;> simp
      · simp
@[simp] theorem core_timerAction : core (timerAction s) = core s := by unfold timerAction; split <;> simp

@[simp] theorem core_drainKeys (n : Nat) : core (drainKeys n s) = core s := by
  unfold drainKeys; dsimp only; split <;> split <;> simp

@[simp] theorem core_refreshPins : core (refreshPins s) = core s := rfl

end Sys2Proof.Machine
end

