-- ==== Sys2Proof/Laws/PackFrame.lean ====
section
/-! SUPPORT. What the charge controller's settling, the sequencer and the energy status leave alone in the packs: every record
but its valid flags, the read in progress, the fresh read, and the link. -/
namespace Sys2Proof.Machine

/-- A slot's record without its valid flags. -/
def PackSlot.stored (p : PackSlot) : PackSlot := { p with items := p.items.map fun _ e => { e with valid := false } }

/-- The pack table without its valid flags, the bus without its queue, the link and the clock. -/
def stock (s : State) : (PackSlot × PackSlot) × (Option CurrentRead × Option FreshRead × Nat) × Link × Nat :=
  ((s.packs.int.stored, s.packs.rear.stored), (s.bus.current, s.bus.fresh, s.bus.recoveries), s.link, s.now)

variable (s : State)

@[simp] theorem stock_latch (k : Kind) (p : Payload) : stock (latch k p s) = stock s := rfl
@[simp] theorem stock_endCondition (k : Kind) : stock (endCondition k s) = stock s := rfl
@[simp] theorem stock_judgeValidity : stock (judgeValidity s) = stock s := rfl
@[simp] theorem stock_mapChg (f : Charger → Charger) : stock (s.mapChg f) = stock s := rfl
@[simp] theorem stock_enqueue (k : Slot) (i : Item) (due : Nat) : stock (enqueue k i due s) = stock s := by
  unfold enqueue; split <;> rfl
@[simp] theorem stock_dequeueWhere (drop : QueueEntry → Bool) : stock (dequeueWhere drop s) = stock s := rfl
@[simp] theorem stock_enqueueIfDue (k : Slot) (i : DynItem) : stock (enqueueIfDue k i s) = stock s := by
  unfold enqueueIfDue; split <;> simp
@[simp] theorem stock_enqueueDue : stock (enqueueDue s) = stock s :=
  foldl_same stock _ (fun t k => foldl_same stock _ (fun u i => stock_enqueueIfDue u k i) _ t) _ s
@[simp] theorem stock_redateItem (k : Slot) (i : DynItem) : stock (redateItem k i s) = stock s := by
  unfold redateItem; dsimp only; split
  · split <;> simp
  · rfl
@[simp] theorem stock_redateSlot (k : Slot) : stock (redateSlot s k) = stock s := by
  unfold redateSlot; split
  · rfl
  · rw [foldl_same stock _ (fun t i => stock_redateItem t k i)]; rfl
@[simp] theorem stock_redateQueue : stock (redateQueue s) = stock s := foldl_same stock _ (fun t k => stock_redateSlot t k) _ s
@[simp] theorem stock_refreshPeriods : stock (refreshPeriods s) = stock s := by simp [refreshPeriods]
@[simp] theorem stock_chooseSource : stock (chooseSource s) = stock s := by unfold chooseSource; split <;> simp
theorem stock_changePack (k : Slot) (f : State → State) (h : stock (f s) = stock s) :
    stock (changePack k f s) = stock s := by
  unfold changePack; dsimp only; split <;> simp [h]
@[simp] theorem stock_putPhase (k : Slot) (p : ChargePhase) : stock (putPhase k p s) = stock s := rfl
@[simp] theorem stock_startSession (k : Slot) : stock (startSession k s) = stock s := stock_changePack s k _ rfl
@[simp] theorem stock_putCal (r : CalRecord) : stock (putCal r s) = stock s := by
  unfold putCal; dsimp only; split <;> simp
@[simp] theorem stock_endCal (o : CalOutcome) (c : Option CalCause) : stock (endCal o c s) = stock s := by
  unfold endCal; split <;> simp
@[simp] theorem stock_beginRest : stock (beginRest s) = stock s := by simp [beginRest]
@[simp] theorem stock_testDischarge (k : Slot) : stock (testDischarge k s) = stock s := by
  unfold testDischarge; split <;> simp
@[simp] theorem stock_testAtFlags (b : State) (k : Slot) : stock (testAtFlags b k s) = stock s := by
  unfold testAtFlags; split <;> simp
@[simp] theorem stock_enterDone (k : Slot) : stock (enterDone k s) = stock s := by
  have h := stock_changePack s k (fun s => s.mapChg fun c =>
    { c with packs := c.packs.set k { (c.packs.get k) with phase := .done, doneRsoc := lastValue s k .rsoc } }) rfl
  unfold enterDone; dsimp only; split
  · rw [stock_endCal]; exact h
  · exact h
@[simp] theorem stock_judgeHold (k : Slot) : stock (judgeHold k s) = stock s := by
  unfold judgeHold
  refine stock_changePack s k _ ?_
  dsimp only
  split
  · split <;> simp
  · simp
@[simp] theorem stock_decideQualify (k : Slot) : stock (decideQualify k s) = stock s := by
  unfold decideQualify
  split
  · split
    · exact stock_changePack s k _ (by simp)
    · rfl
  · rfl
@[simp] theorem stock_sessionPass : stock (sessionPass s) = stock s := by
  unfold sessionPass
  split
  · rfl
  · split
    · split <;> simp
    · rfl
@[simp] theorem stock_dropSelection : stock (dropSelection s) = stock s := by
  unfold dropSelection
  split
  · rfl
  · dsimp only
    rw [stock_dequeueWhere]
    exact stock_changePack s _ _ (by simp)
@[simp] theorem stock_takeSelection (k : Slot) : stock (takeSelection k s) = stock s := by
  unfold takeSelection
  dsimp only
  split
  · simp
  · rw [stock_changePack _ _ _ (by simp)]; simp
@[simp] theorem stock_choosePack : stock (choosePack s) = stock s := by
  unfold choosePack
  split
  · rfl
  · split <;> simp
@[simp] theorem stock_followChargeVoltage : stock (followChargeVoltage s) = stock s := by
  unfold followChargeVoltage
  split
  · split
    · split <;> simp
    · rfl
  · rfl
@[simp] theorem stock_applyCurrent : stock (applyCurrent s) = stock s := rfl
@[simp] theorem stock_chargeRound : stock (chargeRound s) = stock s := by simp [chargeRound]
@[simp] theorem stock_settleOnce : stock (settleOnce s) = stock s := by simp [settleOnce]
@[simp] theorem stock_settleTwice : stock (settleTwice s) = stock s := by
  unfold settleTwice; dsimp only; split <;> simp
@[simp] theorem stock_holdAtLast : stock (holdAtLast s) = stock s := by
  unfold holdAtLast; split
  · rfl
  · split <;> simp
@[simp] theorem stock_settleCharge : stock (settleCharge s) = stock s := by simp [settleCharge]
@[simp] theorem stock_suspend (f : Suspension → Suspension) : stock (suspend f s) = stock s := by simp [suspend]
@[simp] theorem stock_suspendByPlatform : stock (suspendByPlatform s) = stock s := by
  unfold suspendByPlatform; split <;> simp
@[simp] theorem stock_enterFault (k : Slot) (c : ChargeFault) : stock (enterFault k c s) = stock s := by
  have h := stock_changePack s k (fun s =>
    s.mapChg fun g => { g with packs := g.packs.set k { ((g.packs.get k).withPhase .fault) with fault := c } }) rfl
  unfold enterFault; dsimp only; split
  · rw [stock_endCal]; exact h
  · exact h
@[simp] theorem stock_applyLimits (stop start : Nat) : stock (applyLimits stop start s) = stock s := by simp [applyLimits]
@[simp] theorem stock_toggleLimits : stock (toggleLimits s) = stock s := by unfold toggleLimits; split <;> simp
@[simp] theorem stock_latchStanding : stock (latchStanding s) = stock s := by
  unfold latchStanding; dsimp only; split <;> split <;> split <;> simp
@[simp] theorem stock_rearmLow : stock (rearmLow s) = stock s := by
  unfold rearmLow; split
  · rfl
  · split <;> simp
@[simp] theorem stock_latchLow (old new : EnergyLevel) : stock (latchLow old new s) = stock s := by
  unfold latchLow; split <;> simp
@[simp] theorem stock_suspendByAdapter (lost : Bool) : stock (suspendByAdapter lost s) = stock s := by
  unfold suspendByAdapter; split <;> simp
@[simp] theorem stock_readClass (code : Nat) : stock (readClass code s) = stock s := by simp [readClass]
@[simp] theorem stock_leaveFault (k : Slot) : stock (leaveFault k s) = stock s := by
  unfold leaveFault; split
  · exact stock_changePack s k _ rfl
  · rfl
@[simp] theorem stock_budgetHold : stock (budgetHold s) = stock s := by
  unfold budgetHold; split
  · rfl
  · split <;> simp
@[simp] theorem stock_temperatureRead (k : Slot) (t : Int) : stock (temperatureRead k t s) = stock s := by
  unfold temperatureRead; dsimp only; split
  · split
    · simp
    · split <;> simp
  · simp
@[simp] theorem stock_voltageRead (k : Slot) (v : Nat) : stock (voltageRead k v s) = stock s := by
  unfold voltageRead; split
  · split
    · exact stock_changePack s k _ rfl
    · rfl
  · split
    · exact stock_changePack s k _ rfl
    · rfl
  · rfl
@[simp] theorem stock_currentRead (k : Slot) (i : Int) : stock (currentRead k i s) = stock s := by
  unfold currentRead; split <;> simp
@[simp] theorem stock_statusWritten (k : Slot) (a b : BitVec 8) : stock (statusWritten k a b s) = stock s := by
  unfold statusWritten; split <;> simp
@[simp] theorem stock_requestRead (k : Slot) (i : DynItem) : stock (requestRead k i s) = stock s := by
  unfold requestRead; split <;> simp
@[simp] theorem stock_chargeRead (k : Slot) (i : DynItem) (old : BitVec 8) (w : BitVec 16) :
    stock (chargeRead k i old w s) = stock s := by
  unfold chargeRead; split <;> (try split) <;> simp
@[simp] theorem stock_itemDue (k : Slot) (i : DynItem) : stock (itemDue k i s) = stock s := by
  unfold itemDue; split <;> simp

/-! ### The other blocks -/

@[simp] theorem stock_mapPwr (f : Sequencer → Sequencer) : stock (s.mapPwr f) = stock s := rfl
@[simp] theorem stock_mapPost (f : PostureMonitor → PostureMonitor) : stock (s.mapPost f) = stock s := rfl
@[simp] theorem stock_mapKbd (f : Keyboard → Keyboard) : stock (s.mapKbd f) = stock s := rfl
@[simp] theorem stock_mapBud (f : Budget → Budget) : stock (s.mapBud f) = stock s := rfl
@[simp] theorem stock_mapThr (f : Thermal → Thermal) : stock (s.mapThr f) = stock s := rfl
@[simp] theorem stock_mapRail (r : Rail) (f : RailEntry → RailEntry) : stock (s.mapRail r f) = stock s := rfl
@[simp] theorem stock_mapSensor (k : Sensor) (f : SensorRec → SensorRec) : stock (s.mapSensor k f) = stock s := rfl
@[simp] theorem stock_mapFans (f : Fan → FanRec → FanRec) : stock (s.mapFans f) = stock s := rfl
@[simp] theorem stock_setWindow (w : EscalationWindow) (left : Option Nat) : stock (setWindow w left s) = stock s := by
  cases w <;> rfl
@[simp] theorem stock_startWindow (w : EscalationWindow) : stock (startWindow w s) = stock s := by
  unfold startWindow; split <;> simp
@[simp] theorem stock_stopWindows : stock (stopWindows s) = stock s := rfl
@[simp] theorem stock_startWindowsAtRun : stock (startWindowsAtRun s) = stock s := by
  unfold startWindowsAtRun; dsimp only; split <;> split <;> simp
@[simp] theorem stock_computeH : stock (computeH s) = stock s := rfl
@[simp] theorem stock_raiseToFloor : stock (raiseToFloor s) = stock s := rfl
@[simp] theorem stock_fansFull : stock (fansFull s) = stock s := rfl
@[simp] theorem stock_updateCurves : stock (updateCurves s) = stock s := rfl
@[simp] theorem stock_driveFans : stock (driveFans s) = stock s := by unfold driveFans; split <;> simp
@[simp] theorem stock_fanStep : stock (fanStep s) = stock s := by unfold fanStep; split <;> simp
@[simp] theorem stock_setFanMode (m : FanMode) : stock (setFanMode m s) = stock s := by simp [setFanMode]
@[simp] theorem stock_resetFanMode : stock (resetFanMode s) = stock s := by simp [resetFanMode]
@[simp] theorem stock_pushRecord (c : Byte) (a : KeyAction) (l : Layer) : stock (pushRecord c a l s) = stock s := by
  unfold pushRecord; split
  · simp
  · dsimp only; split <;> simp
@[simp] theorem stock_clearQueue : stock (clearQueue s) = stock s := by unfold clearQueue; dsimp only; split <;> simp
@[simp] theorem stock_pushHeld (a : KeyAction) (held : List HeldKey) : stock (pushHeld a held s) = stock s :=
  foldl_same stock _ (fun t _ => stock_pushRecord t _ _ _) _ s
@[simp] theorem stock_pushResync : stock (pushResync s) = stock s := by simp [pushResync]
@[simp] theorem stock_beginSuppression : stock (beginSuppression s) = stock s := by simp [beginSuppression]
@[simp] theorem stock_testSuppression : stock (testSuppression s) = stock s := by
  unfold testSuppression; split
  · split <;> simp
  · simp
@[simp] theorem stock_stopScan : stock (stopScan s) = stock s := rfl
@[simp] theorem stock_restInSleep : stock (restInSleep s) = stock s := by unfold restInSleep; split <;> simp
@[simp] theorem stock_followScanMode : stock (followScanMode s) = stock s := by
  unfold followScanMode; split <;> (try split) <;> simp
@[simp] theorem stock_restartIdle : stock (restartIdle s) = stock s := rfl
@[simp] theorem stock_undim : stock (undim s) = stock s := rfl
@[simp] theorem stock_followBacklight : stock (followBacklight s) = stock s := by
  unfold followBacklight; split <;> simp
@[simp] theorem stock_keyboardDefaults : stock (keyboardDefaults s) = stock s := rfl
@[simp] theorem stock_keyboardOffEntry : stock (keyboardOffEntry s) = stock s := by simp [keyboardOffEntry]
@[simp] theorem stock_setMarker (b : Bool) : stock (s.mapStore fun c => { c with marker := b }) = stock s := rfl
@[simp] theorem stock_followWindows (old : PlatformState) : stock (followWindows old s) = stock s := by
  unfold followWindows; split
  · simp
  · split <;> simp
@[simp] theorem stock_changeState (new : PlatformState) : stock (changeState new s) = stock s := by simp [changeState]
@[simp] theorem stock_reachRun : stock (reachRun s) = stock s := by
  unfold reachRun; dsimp only; rw [stock_latch, stock_setMarker]; simp
@[simp] theorem stock_enableFrom (l : List Rail) : stock (enableFrom l s) = stock s := by
  induction l generalizing s with
  | nil => exact stock_reachRun s
  | cons r l ih => unfold enableFrom; dsimp only; split <;> simp [ih]
@[simp] theorem stock_startPowerUp (c : WakeCause) : stock (startPowerUp c s) = stock s := by simp [startPowerUp]
@[simp] theorem stock_startResume (c : WakeCause) : stock (startResume c s) = stock s := by simp [startResume]
@[simp] theorem stock_reachSleep : stock (reachSleep s) = stock s := by
  unfold reachSleep; dsimp only; split <;> simp
@[simp] theorem stock_noticeOffEntry : stock (noticeOffEntry s) = stock s := by
  unfold noticeOffEntry
  dsimp only
  rw [stock_latchStanding, stock_stopWindows]
  rfl
@[simp] theorem stock_budgetDefaults : stock (budgetDefaults s) = stock s := rfl
@[simp] theorem stock_offEntry : stock (offEntry s) = stock s := by
  unfold offEntry
  dsimp only
  rw [stock_noticeOffEntry, stock_resetFanMode, stock_keyboardOffEntry, stock_mapBud, stock_budgetDefaults, stock_setMarker]
  simp
@[simp] theorem stock_endOfDown : stock (endOfDown s) = stock s := by unfold endOfDown; split <;> simp
@[simp] theorem stock_disableFrom (l : List Rail) : stock (disableFrom l s) = stock s := by
  induction l generalizing s with
  | nil => exact stock_endOfDown s
  | cons r l ih =>
    unfold disableFrom; dsimp only; split
    · split <;> simp [ih]
    · exact ih s
@[simp] theorem stock_endDownWait (r : Rail) (o : RailOutcome) : stock (endDownWait r o s) = stock s := by simp [endDownWait]
@[simp] theorem stock_startPowerDown (c : DownCause) : stock (startPowerDown c s) = stock s := by
  unfold startPowerDown; dsimp only; split <;> simp
@[simp] theorem stock_startSleepEntry : stock (startSleepEntry s) = stock s := by simp [startSleepEntry]
@[simp] theorem stock_showRefusal : stock (showRefusal s) = stock s := rfl
@[simp] theorem stock_refusePower (c : RefusalCause) : stock (refusePower c s) = stock s := by simp [refusePower]
@[simp] theorem stock_powerOnRequest (c : WakeCause) : stock (powerOnRequest c s) = stock s := by
  unfold powerOnRequest; split
  · simp
  · split <;> simp
@[simp] theorem stock_takeWake (c : WakeCause) : stock (takeWake c s) = stock s := by
  unfold takeWake; split
  · simp
  · split <;> simp
  · rfl
@[simp] theorem stock_wakeEvent (c : WakeCause) : stock (wakeEvent c s) = stock s := by unfold wakeEvent; split <;> simp
@[simp] theorem stock_force (c : DownCause) : stock (force c s) = stock s := by unfold force; split <;> simp
@[simp] theorem stock_noticeCritical (a b : EnergyLevel) : stock (noticeCritical a b s) = stock s := by
  unfold noticeCritical; split
  · dsimp only; split <;> simp
  · split <;> simp
@[simp] theorem stock_sequenceCritical (n : EnergyLevel) : stock (sequenceCritical n s) = stock s := by
  unfold sequenceCritical; split <;> simp
@[simp] theorem stock_judgeEnergy : stock (judgeEnergy s) = stock s := by
  unfold judgeEnergy; split
  · dsimp only; split <;> simp
  · rfl
@[simp] theorem stock_packEvent : stock (packEvent s) = stock s := by simp [packEvent]
@[simp] theorem stock_packChanged (k : Slot) : stock (packChanged k s) = stock s := by simp [packChanged]
@[simp] theorem stock_announceReturn (k : Slot) (q : Option SlotState) : stock (announceReturn k q s) = stock s := by
  unfold announceReturn; split <;> simp

/-! ### The end of a read (R80, R90, R95) -/

@[simp] theorem freeBus_current : (freeBus s).bus.current = none := by
  unfold freeBus; split
  · split
    · dsimp only; split <;> rfl
    · rfl
  · rfl
@[simp] theorem freeBus_packs : (freeBus s).packs = s.packs := by
  unfold freeBus; split
  · split
    · dsimp only; split <;> rfl
    · rfl
  · rfl

/-- A read's end frees the bus and dates the item's next poll from now. -/
theorem endRead_frees (k : Slot) (i : Item) : (endRead k i s).bus.current = none := by
  unfold endRead; split <;> simp [State.mapItem, State.mapPack]
theorem endRead_dates (k : Slot) (d : DynItem) :
    (endRead k (.dyn d) s).pack k = { s.pack k with items := (s.pack k).items.set d { (s.pack k).items.get d with lastEnd := s.now } } := by
  cases k <;> simp [endRead, State.mapItem, State.mapPack, State.pack, PerSlot.set, PerSlot.get]

/-- An OK attempt clears the failures and returns a COMM_LOST slot. -/
theorem returnFromLost_pack (k : Slot) : (returnFromLost k s).pack k =
    { s.pack k with failures := 0, state := (s.pack k).returnsTo.getD (s.pack k).state,
                    previous := if (s.pack k).returnsTo = none then (s.pack k).previous else none } := by
  have h : ∀ p : PackSlot, (match p.returnsTo with
      | some q => { p with failures := 0, state := q, previous := none }
      | none => { p with failures := 0 }) =
      { p with failures := 0, state := p.returnsTo.getD p.state,
               previous := if p.returnsTo = none then p.previous else none } := by
    intro p; cases hq : p.returnsTo <;> simp
  cases k <;> exact h _

end Sys2Proof.Machine
end

