-- ==== Sys2Proof/Laws/Energy.lean ====
section
/-! SUPPORT. The judgement of the energy status that follows a command (R121): when it makes none, and what it leaves
alone. -/
namespace Sys2Proof.Machine

/-- After a command the state stands as its effect left it, or the energy status was judged with the adapter away. -/
theorem judgeFlags_cases (s t : State) :
    judgeFlags s t = t ∨ (t.chg.adapter.present = false ∧ judgeFlags s t = judgeEnergy t) := by
  unfold judgeFlags
  split
  · exact .inl rfl
  · rename_i h
    exact .inr ⟨by simpa using fun hp => h (.inl hp), rfl⟩

/-- With the adapter present nothing is judged. -/
theorem judgeFlags_of_present {s t : State} (h : t.chg.adapter.present = true) : judgeFlags s t = t := by
  simp [judgeFlags, h]

/-- With the flags of both slots as they were nothing is judged. -/
theorem judgeFlags_of_flags {s t : State} (hi : validFlags t .int = validFlags s .int)
    (hr : validFlags t .rear = validFlags s .rear) : judgeFlags s t = t := by
  simp [judgeFlags, hi, hr]

/-- A command that leaves the pack table alone is followed by no judgement. -/
theorem judgeFlags_of_packs {s t : State} (h : t.packs = s.packs) : judgeFlags s t = t :=
  judgeFlags_of_flags (by simp only [validFlags, State.item, State.pack, h])
    (by simp only [validFlags, State.item, State.pack, h])

/-- Before the first judgement none is made. -/
theorem judgeFlags_of_unjudged {s t : State} (h : t.chg.judging = false) : judgeFlags s t = t := by
  rcases judgeFlags_cases s t with e | ⟨-, e⟩
  · exact e
  · simp [e, judgeEnergy, h]

/-- An event that leaves the pack table alone. -/
theorem event_of_packs {s : State} {f : State → State} (h : (f s).packs = s.packs) :
    event s f = .next (refreshPins (f s)) := by rw [event, judgeFlags_of_packs h]

/-- A setting request that leaves the pack table alone. -/
theorem setting_of_packs {s : State} {f : State → State} (hp : s.link.processing = none) (h : (f s).packs = s.packs) :
    setting s f = .next (refreshPins (f s)) := by
  simp [setting, request, hp, judgeFlags_of_packs h]

@[simp] theorem core_judgeFlags (s t : State) : core (judgeFlags s t) = core t := by
  unfold judgeFlags; split <;> simp

@[simp] theorem stock_judgeFlags (s t : State) : stock (judgeFlags s t) = stock t := by
  unfold judgeFlags; split <;> simp

end Sys2Proof.Machine
end

