-- ==== Sys2Proof/Laws/Exec.lean ====
section
/-! SUPPORT. What a whole command does to the queue, the running time, the store, the host's settings of the event table
and the programming in progress: eight commands may touch one of these, the others touch none. -/
namespace Sys2Proof.Machine

@[simp] theorem core_respond (kind tag : Byte) (st : Status) (p : List Byte) (s : State) :
    core (respond kind tag st p s) = core s := rfl

@[simp] theorem core_refuse (kind tag : Byte) (st : Status) (s : State) : core (refuse kind tag st s) = core s := rfl

/-- A request in which core is kept by the answer. -/
theorem core_request {s : State} {f : State → State} (h : s.link.processing = none → core (f s) = core s) :
    ∃ t, request s f = .next t ∧ core t = core s := by
  unfold request
  split
  · exact ⟨_, rfl, rfl⟩
  · rename_i hp
    exact ⟨_, rfl, h (by simpa using hp)⟩

/-- An event in which core is kept. -/
theorem core_event {s : State} {f : State → State} (h : core (f s) = core s) : ∃ t, event s f = .next t ∧ core t = core s :=
  ⟨_, rfl, (core_judgeFlags s (f s)).trans h⟩

/-- A setting request in which core is kept. -/
theorem core_setting {s : State} {f : State → State} (h : s.link.processing = none → core (f s) = core s) :
    ∃ t, setting s f = .next t ∧ core t = core s :=
  core_request fun hp => (core_judgeFlags s (f s)).trans (h hp)

theorem core_enterFresh (tag : Byte) (k : Slot) (s : State) (h : s.link.processing = none) :
    core (enterProcessing 0x40 tag (.freshRead tag k false) s) = core s := by
  simp only [core, enterProcessing, respond, programming, h]; rfl

theorem core_finishFresh (kind tag x : Byte) (k : Slot) (b : Bool) (st : Status) (p : List Byte) (s : State)
    (h : s.link.processing = some (.freshRead x k b)) : core (finishProcessing kind tag st p s) = core s := by
  simp only [core, finishProcessing, respond, programming, h]; rfl

/-- The commands that can touch the queue's time, the store, the host's settings of the event table or the programming. -/
def touchesCore (c : Instr) : Prop :=
  (∃ cut, c = .coldReset cut) ∨ (∃ tag b, c = .resetLink tag b) ∨ (∃ tag k l m, c = .setEventControl tag k l m) ∨
  (∃ tag f, c = .setAttentionFloor tag f) ∨ (∃ tag o d, c = .writePolicy tag o d) ∨ c = .policyWriteComplete ∨
  (∃ tag b, c = .freezePolicy tag b) ∨ c = .freezeComplete

theorem core_fetch (k : Kind) (s : State) : core (fetch k s) = core s := by
  unfold fetch
  simp only [core, controls_mapEntry s k EventEntry.fetched rfl rfl]
  rfl

theorem core_placeFreshRead (k : Slot) (s : State) : core (placeFreshRead k s) = core s := core_of_outer (outer_placeFreshRead s k)

section
variable (s : State)
@[simp] theorem core_armWakeTimer (n : Nat) : core (armWakeTimer n s) = core s := rfl
@[simp] theorem core_setButton (b : Button) : core (setButton b s) = core s := rfl
@[simp] theorem core_setOverride (p : Nat) (e : KeyEntry) : core (setOverride p e s) = core s := rfl
@[simp] theorem core_putManual (a b : Nat) : core (putManual a b s) = core s := rfl
@[simp] theorem core_applyLimits (a b : Nat) : core (applyLimits a b s) = core s := core_of_outer (outer_applyLimits s a b)
@[simp] theorem core_putCal (r : CalRecord) : core (putCal r s) = core s := core_of_outer (outer_putCal s r)
@[simp] theorem core_endCal (o : CalOutcome) (c : Option CalCause) : core (endCal o c s) = core s :=
  core_of_outer (outer_endCal s o c)
@[simp] theorem core_suspend (f : Suspension → Suspension) : core (suspend f s) = core s := core_of_outer (outer_suspend s f)
@[simp] theorem core_enterFault (k : Slot) (c : ChargeFault) : core (enterFault k c s) = core s :=
  core_of_outer (outer_enterFault s k c)
@[simp] theorem core_startSession (k : Slot) : core (startSession k s) = core s := core_of_outer (outer_startSession s k)
@[simp] theorem core_readClass (code : Nat) : core (readClass code s) = core s := core_of_outer (outer_readClass s code)
@[simp] theorem core_badAlarm (k : Slot) : core (badAlarm k s) = core s := core_of_outer (outer_badAlarm s k)
@[simp] theorem core_answerManual (t a b : Byte) : core (answerManual t a b s) = core s := by simp [answerManual]
@[simp] theorem core_answerStart (t : Byte) (k : Slot) : core (answerStart t k s) = core s := by
  unfold answerStart; split <;> (try split) <;> simp
end

theorem core_answerRecord (t : Byte) (k : Slot) (f : Bool) (s : State) (h : s.link.processing = none) :
    core (answerRecord t k f s) = core s := by
  unfold answerRecord
  split
  · rfl
  · split
    · rw [core_enterFresh _ _ _ (by exact h), core_placeFreshRead]
    · rfl

/-- Every other command answers a next state with all of these as they were. -/
theorem exec_core (c : Instr) (s : State) (h : ¬ touchesCore c) : ∃ t, exec c s = .next t ∧ core t = core s := by
  cases c
  case coldReset _ =>
    exact absurd (by simp [touchesCore]) h
  case emptyWrite =>
    exact ⟨_, rfl, rfl⟩
  case addressNak =>
    exact ⟨_, rfl, rfl⟩
  case frameError _ =>
    simp only [exec, execFrameError]
    split
    · apply core_setting; intro _; unfold answerBadFrame; split <;> simp
    · exact ⟨_, rfl, rfl⟩
  case getIdentity _ =>
    simp only [exec, execGetIdentity]
    apply core_request; intro _; (try dsimp only); repeat' split
    all_goals rfl
  case resetLink _ _ =>
    exact absurd (by simp [touchesCore]) h
  case fetchNotice _ =>
    simp only [exec, execFetchNotice]
    apply core_setting; intro _; (try dsimp only); repeat' split
    all_goals first | (simp; done) | skip
    exact core_fetch _ s
  case readEventTable _ _ =>
    simp only [exec, execReadEventTable]
    apply core_request; intro _; (try dsimp only); repeat' split
    all_goals rfl
  case setEventControl _ _ _ _ =>
    exact absurd (by simp [touchesCore]) h
  case setAttentionFloor _ _ =>
    exact absurd (by simp [touchesCore]) h
  case getPowerStatus _ =>
    simp only [exec, execGetPowerStatus]
    apply core_request; intro _; (try dsimp only); repeat' split
    all_goals rfl
  case requestPowerState _ _ =>
    simp only [exec, execRequestPowerState]
    apply core_setting; intro _; (try dsimp only); repeat' split
    all_goals simp
  case setWakeSources _ _ =>
    simp only [exec, execSetWakeSources]
    apply core_setting; intro _; (try dsimp only); repeat' split
    all_goals simp
  case setWakeTimer _ _ =>
    simp only [exec, execSetWakeTimer]
    apply core_setting; intro _; (try dsimp only); repeat' split
    all_goals simp
  case getPosture _ =>
    simp only [exec, execGetPosture]
    apply core_request; intro _; (try dsimp only); repeat' split
    all_goals rfl
  case readKeys _ _ =>
    simp only [exec, execReadKeys]
    apply core_setting; intro _; (try dsimp only); repeat' split
    all_goals simp
  case setKeyboardControl _ _ _ _ _ _ _ =>
    simp only [exec, execSetKeyboardControl]
    apply core_setting; intro _; (try dsimp only); repeat' split
    all_goals simp
  case setKeymapEntry _ _ _ _ _ =>
    simp only [exec, execSetKeymapEntry]
    apply core_setting; intro _; (try dsimp only); repeat' split
    all_goals simp
  case getPackRecord _ _ _ =>
    simp only [exec, execGetPackRecord]
    apply core_request; intro _; (try dsimp only); repeat' split
    all_goals first | (simp; done) | skip
    exact core_answerRecord _ _ _ _ (by assumption)
  case freshReadAnswer =>
    simp only [exec, execFreshReadAnswer]
    apply core_event; (try dsimp only); repeat' split
    all_goals first | (simp; done) | skip
    exact core_finishFresh _ _ _ _ _ _ _ _ (by assumption)
  case getPackFault _ _ =>
    simp only [exec, execGetPackFault]
    apply core_request; intro _; (try dsimp only); repeat' split
    all_goals rfl
  case getPowerPath _ =>
    simp only [exec, execGetPowerPath]
    apply core_request; intro _; (try dsimp only); repeat' split
    all_goals rfl
  case setChargeLimits _ _ _ =>
    simp only [exec, execSetChargeLimits]
    apply core_setting; intro _; (try dsimp only); repeat' split
    all_goals simp
  case calibrationStart _ _ _ =>
    simp only [exec, execCalibrationStart]
    apply core_setting; intro _; (try dsimp only); repeat' split
    all_goals simp
  case calibrationSuspend _ _ =>
    simp only [exec, execCalibrationSuspend]
    apply core_setting; intro _; (try dsimp only); repeat' split
    all_goals simp
  case calibrationResume _ _ =>
    simp only [exec, execCalibrationResume]
    apply core_setting; intro _; (try dsimp only); repeat' split
    all_goals simp
  case calibrationAbort _ _ =>
    simp only [exec, execCalibrationAbort]
    apply core_setting; intro _; (try dsimp only); repeat' split
    all_goals simp
  case calibrationStatusRead _ _ =>
    simp only [exec, execCalibrationStatusRead]
    apply core_request; intro _; (try dsimp only); repeat' split
    all_goals rfl
  case getBudget _ =>
    simp only [exec, execGetBudget]
    apply core_request; intro _; (try dsimp only); repeat' split
    all_goals rfl
  case setBudgetMode _ _ _ =>
    simp only [exec, execSetBudgetMode]
    apply core_setting; intro _; (try dsimp only); repeat' split
    all_goals simp
  case getThermal _ =>
    simp only [exec, execGetThermal]
    apply core_request; intro _; (try dsimp only); repeat' split
    all_goals rfl
  case setFanMode _ _ _ _ =>
    simp only [exec, execSetFanMode]
    apply core_setting; intro _; (try dsimp only); repeat' split
    all_goals simp
  case readConfig _ _ _ _ =>
    simp only [exec, execReadConfig]
    apply core_request; intro _; (try dsimp only); repeat' split
    all_goals rfl
  case writePolicy _ _ _ =>
    exact absurd (by simp [touchesCore]) h
  case policyWriteComplete =>
    exact absurd (by simp [touchesCore]) h
  case freezePolicy _ _ =>
    exact absurd (by simp [touchesCore]) h
  case freezeComplete =>
    exact absurd (by simp [touchesCore]) h
  case powerButtonPress =>
    simp only [exec, execPowerButtonPress]
    apply core_event; (try dsimp only); repeat' split
    all_goals simp
  case shortPress =>
    simp only [exec, execShortPress]
    apply core_event; (try dsimp only); repeat' split
    all_goals simp
  case longPress =>
    simp only [exec, execLongPress]
    apply core_event; (try dsimp only); repeat' split
    all_goals simp
  case powerGoodRise _ =>
    simp only [exec, execPowerGoodRise]
    apply core_event; (try dsimp only); repeat' split
    all_goals simp
  case powerGoodFall _ =>
    simp only [exec, execPowerGoodFall]
    apply core_event; (try dsimp only); repeat' split
    all_goals simp
  case upTimeoutExpiry =>
    simp only [exec, execUpTimeoutExpiry]
    apply core_event; (try dsimp only); repeat' split
    all_goals simp
  case downWaitExpiry =>
    simp only [exec, execDownWaitExpiry]
    apply core_event; (try dsimp only); repeat' split
    all_goals simp
  case settleExpiry =>
    simp only [exec, execSettleExpiry]
    apply core_event; (try dsimp only); repeat' split
    all_goals simp
  case rebootOffTimeExpiry =>
    simp only [exec, execRebootOffTimeExpiry]
    apply core_event; (try dsimp only); repeat' split
    all_goals simp
  case wakeTimerExpiry =>
    simp only [exec, execWakeTimerExpiry]
    apply core_event; (try dsimp only); repeat' split
    all_goals simp
  case restoreDecision =>
    simp only [exec, execRestoreDecision]
    apply core_event; (try dsimp only); repeat' split
    all_goals simp
  case refusalDisplayEnd =>
    simp only [exec, execRefusalDisplayEnd]
    apply core_event; (try dsimp only); repeat' split
    all_goals simp
  case escalationExpiry _ =>
    simp only [exec, execEscalationExpiry]
    apply core_event; (try dsimp only); repeat' split
    all_goals simp
  case adapterAttach =>
    simp only [exec, execAdapterAttach]
    apply core_event; (try dsimp only); repeat' split
    all_goals simp
  case adapterClassRead _ =>
    simp only [exec, execAdapterClassRead]
    apply core_event; (try dsimp only); repeat' split
    all_goals simp
  case adapterRemoval =>
    simp only [exec, execAdapterRemoval]
    apply core_event; (try dsimp only); repeat' split
    all_goals simp
  case adapterSample _ _ =>
    simp only [exec, execAdapterSample]
    apply core_event; (try dsimp only); repeat' split
    all_goals simp
  case hallDebouncedChange _ _ =>
    simp only [exec, execHallDebouncedChange]
    apply core_event; (try dsimp only); repeat' split
    all_goals simp
  case angleSample _ =>
    simp only [exec, execAngleSample]
    apply core_event; (try dsimp only); repeat' split
    all_goals simp
  case dwellExpiry =>
    simp only [exec, execDwellExpiry]
    apply core_event; (try dsimp only); repeat' split
    all_goals simp
  case conflictTimerExpiry =>
    simp only [exec, execConflictTimerExpiry]
    apply core_event; (try dsimp only); repeat' split
    all_goals simp
  case returnTimerExpiry =>
    simp only [exec, execReturnTimerExpiry]
    apply core_event; (try dsimp only); repeat' split
    all_goals simp
  case matrixScan _ =>
    simp only [exec, execMatrixScan]
    apply core_event; (try dsimp only); repeat' split
    all_goals simp
  case quietTimeExpiry =>
    simp only [exec, execQuietTimeExpiry]
    apply core_event; (try dsimp only); repeat' split
    all_goals simp
  case senseChange _ =>
    simp only [exec, execSenseChange]
    apply core_event; (try dsimp only); repeat' split
    all_goals simp
  case backlightIdleExpiry =>
    simp only [exec, execBacklightIdleExpiry]
    apply core_event; (try dsimp only); repeat' split
    all_goals simp
  case packInsertion _ =>
    simp only [exec, execPackInsertion]
    apply core_event; (try dsimp only); repeat' split
    all_goals simp
  case packPresenceFall _ =>
    simp only [exec, execPackPresenceFall]
    apply core_event; (try dsimp only); repeat' split
    all_goals simp
  case pollItemDue _ _ =>
    simp only [exec, execPollItemDue]
    apply core_event; (try dsimp only); repeat' split
    all_goals simp
  case identifyRetryExpiry _ =>
    simp only [exec, execIdentifyRetryExpiry]
    apply core_event; (try dsimp only); repeat' split
    all_goals simp
  case packAttemptStart _ =>
    simp only [exec, execPackAttemptStart]
    apply core_event; (try dsimp only); repeat' split
    all_goals simp
  case packAttemptEnd _ =>
    simp only [exec, execPackAttemptEnd]
    apply core_event; (try dsimp only); repeat' split
    all_goals simp
  case alarmMessage _ =>
    simp only [exec, execAlarmMessage]
    apply core_event; (try dsimp only); repeat' split
    all_goals simp
  case alarmClockTimeout _ =>
    simp only [exec, execAlarmClockTimeout]
    apply core_event; (try dsimp only); repeat' split
    all_goals simp
  case itemStale _ _ =>
    simp only [exec, execItemStale]
    apply core_event; (try dsimp only); repeat' split
    all_goals simp
  case switchOverExpiry =>
    simp only [exec, execSwitchOverExpiry]
    apply core_event; (try dsimp only); repeat' split
    all_goals simp
  case sessionTimerExpiry =>
    simp only [exec, execSessionTimerExpiry]
    apply core_event; (try dsimp only); repeat' split
    all_goals simp
  case prechargeTimeout =>
    simp only [exec, execPrechargeTimeout]
    apply core_event; (try dsimp only); repeat' split
    all_goals simp
  case budgetRetryExpiry =>
    simp only [exec, execBudgetRetryExpiry]
    apply core_event; (try dsimp only); repeat' split
    all_goals simp
  case dischargeTimeout =>
    simp only [exec, execDischargeTimeout]
    apply core_event; (try dsimp only); repeat' split
    all_goals simp
  case restExpiry =>
    simp only [exec, execRestExpiry]
    apply core_event; (try dsimp only); repeat' split
    all_goals simp
  case energyFirstJudgement =>
    simp only [exec, execEnergyFirstJudgement]
    apply core_event; (try dsimp only); repeat' split
    all_goals simp
  case budgetEvaluation =>
    simp only [exec, execBudgetEvaluation]
    apply core_event; (try dsimp only); repeat' split
    all_goals simp
  case conversionRound _ _ _ _ =>
    simp only [exec, execConversionRound]
    apply core_event; (try dsimp only); repeat' split
    all_goals simp
  case startUpHoldEnd =>
    simp only [exec, execStartUpHoldEnd]
    apply core_event; (try dsimp only); repeat' split
    all_goals simp
  case tachWindowEnd _ _ =>
    simp only [exec, execTachWindowEnd]
    apply core_event; (try dsimp only); repeat' split
    all_goals simp
  case powerButtonRelease =>
    simp only [exec, execPowerButtonRelease]
    apply core_event; (try dsimp only); repeat' split
    all_goals simp

/-! ### What every command answers: the pins that follow the new state, or nothing but the link and the bus changed -/

/-- The state without the link and the pack bus. -/
def aside (s : State) : State := { s with link := State.reset.link, bus := State.reset.bus }

/-- The two ways in which a command ends. -/
def endsWell (s t : State) : Prop := (∃ u, t = refreshPins u) ∨ aside t = aside s

theorem shape_event (s : State) (f : State → State) : ∃ t, event s f = .next t ∧ endsWell s t :=
  ⟨_, rfl, .inl ⟨_, rfl⟩⟩

theorem shape_setting (s : State) (f : State → State) : ∃ t, setting s f = .next t ∧ endsWell s t := by
  unfold setting request
  split
  · exact ⟨_, rfl, .inr rfl⟩
  · exact ⟨_, rfl, .inl ⟨_, rfl⟩⟩

theorem shape_request {s : State} {f : State → State} (h : aside (f s) = aside s) :
    ∃ t, request s f = .next t ∧ endsWell s t := by
  unfold request
  split
  · exact ⟨_, rfl, .inr rfl⟩
  · exact ⟨_, rfl, .inr h⟩

@[simp] theorem aside_respond (kind tag : Byte) (st : Status) (p : List Byte) (s : State) :
    aside (respond kind tag st p s) = aside s := rfl

@[simp] theorem aside_refuse (kind tag : Byte) (st : Status) (s : State) : aside (refuse kind tag st s) = aside s := rfl

theorem aside_answerRecord (t : Byte) (k : Slot) (f : Bool) (s : State) : aside (answerRecord t k f s) = aside s := by
  unfold answerRecord
  split
  · rfl
  · split <;> rfl

/-- Every command answers a next state, in one of the two ways. -/
theorem exec_shape (c : Instr) (s : State) : ∃ t, exec c s = .next t ∧ endsWell s t := by
  cases c
  case coldReset _ => exact ⟨_, rfl, .inl ⟨_, rfl⟩⟩
  case emptyWrite => exact ⟨_, rfl, .inr rfl⟩
  case addressNak => exact ⟨_, rfl, .inr rfl⟩
  case frameError _ =>
    simp only [exec, execFrameError]
    split
    · exact shape_setting _ _
    · exact ⟨_, rfl, .inr rfl⟩
  case getIdentity _ =>
    simp only [exec, execGetIdentity]
    apply shape_request; repeat' split
    all_goals rfl
  case resetLink _ _ => unfold exec execResetLink; exact shape_setting s _
  case fetchNotice _ => unfold exec execFetchNotice; exact shape_setting s _
  case readEventTable _ _ =>
    simp only [exec, execReadEventTable]
    apply shape_request; repeat' split
    all_goals rfl
  case setEventControl _ _ _ _ => unfold exec execSetEventControl; exact shape_setting s _
  case setAttentionFloor _ _ => unfold exec execSetAttentionFloor; exact shape_setting s _
  case getPowerStatus _ =>
    simp only [exec, execGetPowerStatus]
    apply shape_request; repeat' split
    all_goals rfl
  case requestPowerState _ _ => unfold exec execRequestPowerState; exact shape_setting s _
  case setWakeSources _ _ => unfold exec execSetWakeSources; exact shape_setting s _
  case setWakeTimer _ _ => unfold exec execSetWakeTimer; exact shape_setting s _
  case getPosture _ =>
    simp only [exec, execGetPosture]
    apply shape_request; repeat' split
    all_goals rfl
  case readKeys _ _ => unfold exec execReadKeys; exact shape_setting s _
  case setKeyboardControl _ _ _ _ _ _ _ => unfold exec execSetKeyboardControl; exact shape_setting s _
  case setKeymapEntry _ _ _ _ _ => unfold exec execSetKeymapEntry; exact shape_setting s _
  case getPackRecord _ _ _ =>
    simp only [exec, execGetPackRecord]
    apply shape_request; repeat' split
    all_goals first | exact aside_answerRecord _ _ _ s | rfl
  case freshReadAnswer => unfold exec execFreshReadAnswer; exact shape_event s _
  case getPackFault _ _ =>
    simp only [exec, execGetPackFault]
    apply shape_request; repeat' split
    all_goals rfl
  case getPowerPath _ =>
    simp only [exec, execGetPowerPath]
    apply shape_request; repeat' split
    all_goals rfl
  case setChargeLimits _ _ _ => unfold exec execSetChargeLimits; exact shape_setting s _
  case calibrationStart _ _ _ => unfold exec execCalibrationStart; exact shape_setting s _
  case calibrationSuspend _ _ => unfold exec execCalibrationSuspend; exact shape_setting s _
  case calibrationResume _ _ => unfold exec execCalibrationResume; exact shape_setting s _
  case calibrationAbort _ _ => unfold exec execCalibrationAbort; exact shape_setting s _
  case calibrationStatusRead _ _ =>
    simp only [exec, execCalibrationStatusRead]
    apply shape_request; repeat' split
    all_goals rfl
  case getBudget _ =>
    simp only [exec, execGetBudget]
    apply shape_request; repeat' split
    all_goals rfl
  case setBudgetMode _ _ _ => unfold exec execSetBudgetMode; exact shape_setting s _
  case getThermal _ =>
    simp only [exec, execGetThermal]
    apply shape_request; repeat' split
    all_goals rfl
  case setFanMode _ _ _ _ => unfold exec execSetFanMode; exact shape_setting s _
  case readConfig _ _ _ _ =>
    simp only [exec, execReadConfig]
    apply shape_request; repeat' split
    all_goals rfl
  case writePolicy _ _ _ => unfold exec execWritePolicy; exact shape_setting s _
  case policyWriteComplete => unfold exec execPolicyWriteComplete; exact shape_event s _
  case freezePolicy _ _ => unfold exec execFreezePolicy; exact shape_setting s _
  case freezeComplete => unfold exec execFreezeComplete; exact shape_event s _
  case powerButtonPress => unfold exec execPowerButtonPress; exact shape_event s _
  case shortPress => unfold exec execShortPress; exact shape_event s _
  case longPress => unfold exec execLongPress; exact shape_event s _
  case powerGoodRise _ => unfold exec execPowerGoodRise; exact shape_event s _
  case powerGoodFall _ => unfold exec execPowerGoodFall; exact shape_event s _
  case upTimeoutExpiry => unfold exec execUpTimeoutExpiry; exact shape_event s _
  case downWaitExpiry => unfold exec execDownWaitExpiry; exact shape_event s _
  case settleExpiry => unfold exec execSettleExpiry; exact shape_event s _
  case rebootOffTimeExpiry => unfold exec execRebootOffTimeExpiry; exact shape_event s _
  case wakeTimerExpiry => unfold exec execWakeTimerExpiry; exact shape_event s _
  case restoreDecision => unfold exec execRestoreDecision; exact shape_event s _
  case refusalDisplayEnd => unfold exec execRefusalDisplayEnd; exact shape_event s _
  case escalationExpiry _ => unfold exec execEscalationExpiry; exact shape_event s _
  case adapterAttach => unfold exec execAdapterAttach; exact shape_event s _
  case adapterClassRead _ => unfold exec execAdapterClassRead; exact shape_event s _
  case adapterRemoval => unfold exec execAdapterRemoval; exact shape_event s _
  case adapterSample _ _ => unfold exec execAdapterSample; exact shape_event s _
  case hallDebouncedChange _ _ => unfold exec execHallDebouncedChange; exact shape_event s _
  case angleSample _ => unfold exec execAngleSample; exact shape_event s _
  case dwellExpiry => unfold exec execDwellExpiry; exact shape_event s _
  case conflictTimerExpiry => unfold exec execConflictTimerExpiry; exact shape_event s _
  case returnTimerExpiry => unfold exec execReturnTimerExpiry; exact shape_event s _
  case matrixScan _ => unfold exec execMatrixScan; exact shape_event s _
  case quietTimeExpiry => unfold exec execQuietTimeExpiry; exact shape_event s _
  case senseChange _ => unfold exec execSenseChange; exact shape_event s _
  case backlightIdleExpiry => unfold exec execBacklightIdleExpiry; exact shape_event s _
  case packInsertion _ => unfold exec execPackInsertion; exact shape_event s _
  case packPresenceFall _ => unfold exec execPackPresenceFall; exact shape_event s _
  case pollItemDue _ _ => unfold exec execPollItemDue; exact shape_event s _
  case identifyRetryExpiry _ => unfold exec execIdentifyRetryExpiry; exact shape_event s _
  case packAttemptStart _ => unfold exec execPackAttemptStart; exact shape_event s _
  case packAttemptEnd _ => unfold exec execPackAttemptEnd; exact shape_event s _
  case alarmMessage _ => unfold exec execAlarmMessage; exact shape_event s _
  case alarmClockTimeout _ => unfold exec execAlarmClockTimeout; exact shape_event s _
  case itemStale _ _ => unfold exec execItemStale; exact shape_event s _
  case switchOverExpiry => unfold exec execSwitchOverExpiry; exact shape_event s _
  case sessionTimerExpiry => unfold exec execSessionTimerExpiry; exact shape_event s _
  case prechargeTimeout => unfold exec execPrechargeTimeout; exact shape_event s _
  case budgetRetryExpiry => unfold exec execBudgetRetryExpiry; exact shape_event s _
  case dischargeTimeout => unfold exec execDischargeTimeout; exact shape_event s _
  case restExpiry => unfold exec execRestExpiry; exact shape_event s _
  case energyFirstJudgement => unfold exec execEnergyFirstJudgement; exact shape_event s _
  case budgetEvaluation => unfold exec execBudgetEvaluation; exact shape_event s _
  case conversionRound _ _ _ _ => unfold exec execConversionRound; exact shape_event s _
  case startUpHoldEnd => unfold exec execStartUpHoldEnd; exact shape_event s _
  case tachWindowEnd _ _ => unfold exec execTachWindowEnd; exact shape_event s _
  case powerButtonRelease => unfold exec execPowerButtonRelease; exact shape_event s _

end Sys2Proof.Machine
end

