-- ==== Sys2Proof/Laws/KeyFrame.lean ====
section
/-! SUPPORT. What the scanner's own operations leave alone: everything but the scanner's record and the entries they latch
or end. -/
namespace Sys2Proof.Machine

/-- All but the scanner's record and what the event table's entries report. -/
def still (s : State) : State × (Kind → Nat × Bool) × (Kind → Option EventEntry) :=
  ({ s with kbd := State.reset.kbd, notice := { s.notice with table := freshTable } }, kept s)

variable (s : State)

@[simp] theorem still_mapKbd (f : Keyboard → Keyboard) : still (s.mapKbd f) = still s := rfl

@[simp] theorem still_latch (k : Kind) (p : Payload) (h : k.settled = false) : still (latch k p s) = still s := by
  unfold still; rw [kept_latch s k p h]; rfl

@[simp] theorem still_endCondition (k : Kind) (h : k.settled = false) : still (endCondition k s) = still s := by
  unfold still; rw [kept_endCondition s k h]; rfl

@[simp] theorem still_pushRecord (c : Byte) (a : KeyAction) (l : Layer) : still (pushRecord c a l s) = still s := by
  unfold pushRecord
  split
  · rfl
  · dsimp only; split <;> simp

@[simp] theorem still_clearQueue : still (clearQueue s) = still s := by unfold clearQueue; dsimp only; split <;> simp

@[simp] theorem still_pushHeld (a : KeyAction) (held : List HeldKey) : still (pushHeld a held s) = still s := by
  unfold pushHeld
  induction held generalizing s with
  | nil => rfl
  | cons h held ih => rw [List.foldl_cons, ih, still_pushRecord]

@[simp] theorem still_pushResync : still (pushResync s) = still s := by simp [pushResync]
@[simp] theorem still_beginSuppression : still (beginSuppression s) = still s := by simp [beginSuppression]

@[simp] theorem still_testSuppression : still (testSuppression s) = still s := by
  unfold testSuppression; split <;> (try split) <;> simp

@[simp] theorem still_restartIdle : still (restartIdle s) = still s := rfl
@[simp] theorem still_undim : still (undim s) = still s := rfl
@[simp] theorem still_stopScan : still (stopScan s) = still s := rfl
@[simp] theorem still_restInSleep : still (restInSleep s) = still s := by unfold restInSleep; split <;> simp
@[simp] theorem still_followScanMode : still (followScanMode s) = still s := by
  unfold followScanMode; split <;> (try split) <;> simp
@[simp] theorem still_followBacklight : still (followBacklight s) = still s := by unfold followBacklight; split <;> simp
@[simp] theorem still_keyboardDefaults : still (keyboardDefaults s) = still s := rfl
@[simp] theorem still_keyboardWarmReset : still (keyboardWarmReset s) = still s := by simp [keyboardWarmReset]
@[simp] theorem still_keyboardOffEntry : still (keyboardOffEntry s) = still s := by simp [keyboardOffEntry]

@[simp] theorem still_latchStanding : still (latchStanding s) = still s := by
  unfold latchStanding; dsimp only; split <;> split <;> split <;> simp

@[simp] theorem still_drainKeys (n : Nat) : still (drainKeys n s) = still s := by
  unfold drainKeys; dsimp only; split <;> split <;> simp

section
variable {s t : State}

theorem pwr_of_still (h : still t = still s) : t.pwr = s.pwr := congrArg (fun p => p.1.pwr) h
theorem post_of_still (h : still t = still s) : t.post = s.post := congrArg (fun p => p.1.post) h
theorem packs_of_still (h : still t = still s) : t.packs = s.packs := congrArg (fun p => p.1.packs) h
theorem bus_of_still (h : still t = still s) : t.bus = s.bus := congrArg (fun p => p.1.bus) h
theorem chg_of_still (h : still t = still s) : t.chg = s.chg := congrArg (fun p => p.1.chg) h
theorem bud_of_still (h : still t = still s) : t.bud = s.bud := congrArg (fun p => p.1.bud) h
theorem thr_of_still (h : still t = still s) : t.thr = s.thr := congrArg (fun p => p.1.thr) h
theorem link_of_still (h : still t = still s) : t.link = s.link := congrArg (fun p => p.1.link) h
theorem store_of_still (h : still t = still s) : t.store = s.store := congrArg (fun p => p.1.store) h
theorem now_of_still (h : still t = still s) : t.now = s.now := congrArg (fun p => p.1.now) h
theorem floor_of_still (h : still t = still s) : t.notice.floor = s.notice.floor := congrArg (fun p => p.1.notice.floor) h
theorem windows_of_still (h : still t = still s) :
    t.notice.critWindow = s.notice.critWindow ∧ t.notice.tripWindow = s.notice.tripWindow :=
  ⟨congrArg (fun p => p.1.notice.critWindow) h, congrArg (fun p => p.1.notice.tripWindow) h⟩
theorem kept_of_still (h : still t = still s) : kept t = kept s := congrArg (fun p => p.2) h
theorem controls_of_still (h : still t = still s) : controls t = controls s := congrArg (fun p => p.2.1) h

end

end Sys2Proof.Machine
end

