-- ==== Sys2Proof/Laws/Memory.lean ====
section
/-! SUPPORT. What the sparse tables do: a write keeps the canonical form, reads back, and leaves every other key alone; so
do the stored regions, byte by byte. -/
namespace Sys2Proof.Machine

variable {α : Type}

/-- A write leaves every other key alone. -/
theorem sparseGet_sparseSet_other [DecidableEq α] (d : Nat → α) (m : List (Nat × α)) {j k : Nat} (v : α) (h : j ≠ k) :
    sparseGet d (sparseSet d m k v) j = sparseGet d m j := by
  induction m with
  | nil =>
    unfold sparseSet
    split
    · rfl
    · simp [sparseGet, Ne.symm h]
  | cons e m ih =>
    obtain ⟨a, w⟩ := e
    unfold sparseSet
    split
    · split
      · rfl
      · simp [sparseGet, Ne.symm h]
    · split
      · rename_i hk
        subst hk
        split <;> simp [sparseGet, Ne.symm h]
      · simp [sparseGet, ih]

/-- A key below every listed one reads as unlisted. -/
theorem sparseGet_below [DecidableEq α] (d : Nat → α) (m : List (Nat × α)) {lo k : Nat} (hw : sparseWf d lo m = true) (hk : k < lo) :
    sparseGet d m k = d k := by
  induction m generalizing lo with
  | nil => rfl
  | cons e m ih =>
    obtain ⟨a, w⟩ := e
    simp only [sparseWf, Bool.and_eq_true, decide_eq_true_eq] at hw
    simp only [sparseGet]
    rw [if_neg (by omega)]
    exact ih hw.2 (by omega)

/-- A write reads back. -/
theorem sparseGet_sparseSet_self [DecidableEq α] (d : Nat → α) (m : List (Nat × α)) {lo : Nat} (k : Nat) (v : α)
    (hw : sparseWf d lo m = true) : sparseGet d (sparseSet d m k v) k = v := by
  induction m generalizing lo with
  | nil => unfold sparseSet; split <;> simp_all [sparseGet]
  | cons e m ih =>
    obtain ⟨a, w⟩ := e
    simp only [sparseWf, Bool.and_eq_true, decide_eq_true_eq] at hw
    unfold sparseSet
    split
    · rename_i hk
      split
      · rename_i hv
        rw [hv]
        simp only [sparseGet]
        rw [if_neg (by omega)]
        exact sparseGet_below d m hw.2 (by omega)
      · simp [sparseGet]
    · split
      · rename_i hk
        subst hk
        split
        · rename_i hv
          rw [hv]
          exact sparseGet_below d m hw.2 (by omega)
        · simp [sparseGet]
      · rename_i hk
        simp only [sparseGet]
        rw [if_neg (fun h => hk h.symm)]
        exact ih hw.2

/-- A lower bound on the keys may be lowered. -/
theorem sparseWf_lower [DecidableEq α] (d : Nat → α) (m : List (Nat × α)) {lo lo' : Nat} (hw : sparseWf d lo m = true)
    (h : lo' ≤ lo) : sparseWf d lo' m = true := by
  cases m with
  | nil => rfl
  | cons e m =>
    simp only [sparseWf, Bool.and_eq_true, decide_eq_true_eq] at hw ⊢
    exact ⟨⟨by omega, hw.1.2⟩, hw.2⟩

/-- A write keeps the canonical form. -/
theorem sparseWf_sparseSet [DecidableEq α] (d : Nat → α) (m : List (Nat × α)) {lo k : Nat} (v : α) (hw : sparseWf d lo m = true)
    (hk : lo ≤ k) : sparseWf d lo (sparseSet d m k v) = true := by
  induction m generalizing lo with
  | nil => unfold sparseSet; split <;> simp_all [sparseWf]
  | cons e m ih =>
    obtain ⟨a, w⟩ := e
    have hw' := hw
    simp only [sparseWf, Bool.and_eq_true, decide_eq_true_eq] at hw
    unfold sparseSet
    split
    · rename_i hka
      split
      · exact hw'
      · rename_i hv
        simp only [sparseWf, Bool.and_eq_true, decide_eq_true_eq]
        exact ⟨⟨hk, by simpa using hv⟩, ⟨by omega, hw.1.2⟩, hw.2⟩
    · split
      · rename_i hka
        subst hka
        split
        · exact sparseWf_lower d m hw.2 (by omega)
        · rename_i hv
          simp only [sparseWf, Bool.and_eq_true, decide_eq_true_eq]
          exact ⟨⟨hk, by simpa using hv⟩, hw.2⟩
      · simp only [sparseWf, Bool.and_eq_true, decide_eq_true_eq]
        exact ⟨hw.1, ih hw.2 (by omega)⟩

/-! ### Stored regions -/

/-- Writing a byte keeps the canonical form of a stored region. -/
theorem Memory.wf_write (m : Memory) (a : Nat) (b : Byte) (h : m.wf = true) : (m.write a b).wf = true :=
  sparseWf_sparseSet blankByte m b h (Nat.zero_le a)

/-- Writing bytes keeps the canonical form of a stored region. -/
theorem Memory.wf_writeBytes (bs : List Byte) (m : Memory) (a : Nat) (h : m.wf = true) : (m.writeBytes a bs).wf = true := by
  induction bs generalizing m a with
  | nil => exact h
  | cons b bs ih => exact ih _ _ (Memory.wf_write m a b h)

/-- A byte written reads back. -/
theorem Memory.read_write_self (m : Memory) (a : Nat) (b : Byte) (h : m.wf = true) : (m.write a b).read a = b :=
  sparseGet_sparseSet_self blankByte m a b h

/-- Every other byte stays. -/
theorem Memory.read_write_other (m : Memory) {a j : Nat} (b : Byte) (h : j ≠ a) : (m.write a b).read j = m.read j :=
  sparseGet_sparseSet_other blankByte m b h

/-- Bytes outside a written range stay. -/
theorem Memory.read_writeBytes_outside (bs : List Byte) (m : Memory) (a j : Nat) (h : j < a ∨ a + bs.length ≤ j) :
    (m.writeBytes a bs).read j = m.read j := by
  induction bs generalizing m a with
  | nil => rfl
  | cons b bs ih =>
    simp only [List.length_cons] at h
    rw [Memory.writeBytes, ih _ _ (by omega), Memory.read_write_other m b (by omega)]

/-- Bytes inside a written range read as written. -/
theorem Memory.read_writeBytes_inside (bs : List Byte) (m : Memory) (a j : Nat) (hw : m.wf = true) (hj : j < bs.length) :
    (m.writeBytes a bs).read (a + j) = bs.getD j 0 := by
  induction bs generalizing m a j with
  | nil => simp at hj
  | cons b bs ih =>
    cases j with
    | zero =>
      rw [Memory.writeBytes, Memory.read_writeBytes_outside _ _ _ _ (by omega)]
      simpa using Memory.read_write_self m a b hw
    | succ j =>
      simp only [List.length_cons] at hj
      have := ih (m.write a b) (a + 1) j (Memory.wf_write m a b hw) (by omega)
      rw [Memory.writeBytes, show a + (j + 1) = a + 1 + j by omega, this]
      simp

/-- Equal bytes in a range give equal readings of it. -/
theorem Memory.readBytes_congr (m m' : Memory) (a n : Nat) (h : ∀ j, a ≤ j → j < a + n → m'.read j = m.read j) :
    m'.readBytes a n = m.readBytes a n := by
  unfold Memory.readBytes
  apply List.map_congr_left
  intro i hi
  rw [List.mem_range] at hi
  exact h _ (by omega) (by omega)

@[simp] theorem Memory.length_readBytes (m : Memory) (a n : Nat) : (m.readBytes a n).length = n := by
  simp [Memory.readBytes]

/-- The stored regions right after reset are in canonical form. -/
theorem reset_store_wf : State.reset.store.image.wf = true ∧ State.reset.store.factory.wf = true := ⟨rfl, rfl⟩

end Sys2Proof.Machine
end

