-- ==== Sys2Proof/Laws/Sequence.lean ====
section
/-! SUPPORT. What a change of platform state and the rail sequences leave alone: everything outside the sequencer, the
scanner, the packs, the charge controller and the event table. -/
namespace Sys2Proof.Machine

/-- All that neither the scanner nor the packs, the charge controller, the windows and the entries hold. -/
def platform (s : State) : State × Nat × (Kind → Nat × Bool) × (Kind → Option EventEntry) :=
  ({ s with kbd := State.reset.kbd, packs := State.reset.packs, bus := State.reset.bus, chg := State.reset.chg,
            notice := State.reset.notice }, s.notice.floor, kept s)

theorem platform_of_outer {s t : State} (h : outer t = outer s) : platform t = platform s := by
  simp only [platform]
  rw [floor_of_outer h, kept_of_outer h]
  have := congrArg (fun p => { p.1 with kbd := State.reset.kbd }) h
  exact congrArg (fun u => (u, s.notice.floor, kept s)) this

theorem platform_of_still {s t : State} (h : still t = still s) : platform t = platform s := by
  simp only [platform]
  rw [floor_of_still h, kept_of_still h]
  have := congrArg (fun p => { p.1 with packs := State.reset.packs, bus := State.reset.bus, chg := State.reset.chg,
                                        notice := State.reset.notice }) h
  exact congrArg (fun u => (u, s.notice.floor, kept s)) this

section
variable {s t : State}
theorem pwr_of_platform (h : platform t = platform s) : t.pwr = s.pwr := congrArg (fun p => p.1.pwr) h
theorem post_of_platform (h : platform t = platform s) : t.post = s.post := congrArg (fun p => p.1.post) h
theorem bud_of_platform (h : platform t = platform s) : t.bud = s.bud := congrArg (fun p => p.1.bud) h
theorem thr_of_platform (h : platform t = platform s) : t.thr = s.thr := congrArg (fun p => p.1.thr) h
theorem link_of_platform (h : platform t = platform s) : t.link = s.link := congrArg (fun p => p.1.link) h
theorem store_of_platform (h : platform t = platform s) : t.store = s.store := congrArg (fun p => p.1.store) h
theorem pins_of_platform (h : platform t = platform s) : t.pins = s.pins := congrArg (fun p => p.1.pins) h
theorem now_of_platform (h : platform t = platform s) : t.now = s.now := congrArg (fun p => p.1.now) h
theorem floor_of_platform (h : platform t = platform s) : t.notice.floor = s.notice.floor := congrArg (fun p => p.2.1) h
theorem kept_of_platform (h : platform t = platform s) : kept t = kept s := congrArg (fun p => p.2.2) h
end

variable (s : State)

@[simp] theorem platform_settleCharge : platform (settleCharge s) = platform s := platform_of_outer (outer_settleCharge s)
@[simp] theorem platform_suspendByPlatform : platform (suspendByPlatform s) = platform s :=
  platform_of_outer (outer_suspendByPlatform s)
@[simp] theorem platform_followBacklight : platform (followBacklight s) = platform s := platform_of_still (still_followBacklight s)
@[simp] theorem platform_followScanMode : platform (followScanMode s) = platform s := platform_of_still (still_followScanMode s)
@[simp] theorem platform_testSuppression : platform (testSuppression s) = platform s :=
  platform_of_still (still_testSuppression s)
@[simp] theorem platform_stopWindows : platform (stopWindows s) = platform s := rfl

@[simp] theorem platform_startWindow (w : EscalationWindow) : platform (startWindow w s) = platform s := by
  unfold startWindow; split
  · cases w <;> rfl
  · rfl

@[simp] theorem platform_startWindowsAtRun : platform (startWindowsAtRun s) = platform s := by
  unfold startWindowsAtRun; dsimp only; split <;> split <;> simp

@[simp] theorem platform_followWindows (old : PlatformState) : platform (followWindows old s) = platform s := by
  unfold followWindows; split <;> (try split) <;> simp

/-- A change of platform state writes the state and ends the refusal display; outside the scanner, the packs, the charge
controller and the event table nothing else changes. -/
theorem platform_changeState (new : PlatformState) :
    platform (changeState new s) = platform { s with pwr := { s.pwr with state := new, refusalDisplay := none, wakeExpired := false } } := by
  simp [changeState]; rfl

/-! ### The scanner in a change of platform state -/

@[simp] theorem startWindow_kbd (w : EscalationWindow) : (startWindow w s).kbd = s.kbd := by
  unfold startWindow; split
  · cases w <;> rfl
  · rfl

@[simp] theorem startWindowsAtRun_kbd : (startWindowsAtRun s).kbd = s.kbd := by
  unfold startWindowsAtRun; dsimp only; split <;> split <;> simp

@[simp] theorem followWindows_kbd (old : PlatformState) : (followWindows old s).kbd = s.kbd := by
  unfold followWindows; split
  · simp
  · split <;> rfl

/-- The scanner's record after a change of platform state: suppression, scan mode and backlight, in this order. -/
theorem changeState_kbd (new : PlatformState) :
    (changeState new s).kbd = (followBacklight (followScanMode (testSuppression
      { s with pwr := { s.pwr with state := new, refusalDisplay := none, wakeExpired := false } }))).kbd := by
  unfold changeState
  dsimp only
  rw [kbd_of_outer (outer_settleCharge _), kbd_of_outer (outer_suspendByPlatform _), followWindows_kbd]
  rfl

/-! ### What a change of platform state leaves alone -/

@[simp] theorem changeState_pwr (new : PlatformState) :
    (changeState new s).pwr = { s.pwr with state := new, refusalDisplay := none, wakeExpired := false } :=
  (pwr_of_platform (platform_changeState s new)).trans rfl
@[simp] theorem changeState_post (new : PlatformState) : (changeState new s).post = s.post :=
  (post_of_platform (platform_changeState s new)).trans rfl
@[simp] theorem changeState_bud (new : PlatformState) : (changeState new s).bud = s.bud :=
  (bud_of_platform (platform_changeState s new)).trans rfl
@[simp] theorem changeState_thr (new : PlatformState) : (changeState new s).thr = s.thr :=
  (thr_of_platform (platform_changeState s new)).trans rfl
@[simp] theorem changeState_link (new : PlatformState) : (changeState new s).link = s.link :=
  (link_of_platform (platform_changeState s new)).trans rfl
@[simp] theorem changeState_store (new : PlatformState) : (changeState new s).store = s.store :=
  (store_of_platform (platform_changeState s new)).trans rfl
@[simp] theorem changeState_pins (new : PlatformState) : (changeState new s).pins = s.pins :=
  (pins_of_platform (platform_changeState s new)).trans rfl
@[simp] theorem changeState_now (new : PlatformState) : (changeState new s).now = s.now :=
  (now_of_platform (platform_changeState s new)).trans rfl
@[simp] theorem changeState_floor (new : PlatformState) : (changeState new s).notice.floor = s.notice.floor :=
  (floor_of_platform (platform_changeState s new)).trans rfl
@[simp] theorem changeState_kept (new : PlatformState) : kept (changeState new s) = kept s :=
  (kept_of_platform (platform_changeState s new)).trans rfl

end Sys2Proof.Machine
end

