-- ==== Sys2Proof/Tests/Slice0.lean ====
section
/-! SUPPORT. Tests: well-formedness, frames, checks, worked examples of the manual on one step each, and for every statement
with hypotheses a state and operands that meet them. -/
namespace Sys2Proof.Tests

set_option Elab.async false

open Sys2Proof Sys2Proof.Machine Sys2Proof.Claims

/-! ### Small states -/

/-- The state that an outcome holds; these commands all answer one. -/
def after (o : Host.Outcome State Fault Refusal) : State :=
  match o with
  | .next t => t
  | .fault _ => State.reset
  | .refused _ => State.reset

/-- A state right after reset in a platform state. -/
def inState (x : PlatformState) : State := { State.reset with pwr := { State.reset.pwr with state := x } }

/-- RUN with the built-in policy. -/
def running : State := inState .run

/-- A state with the sequencer changed. -/
def withPwr (s : State) (f : Sequencer → Sequencer) : State := { s with pwr := f s.pwr }

/-- A poll entry read at time 0. -/
def fresh (n : Nat) : PollEntry := { value := some (BitVec.ofNat 16 n), age := 0, valid := true, lastEnd := 0 }

/-- The identity of an accepted pack of three cells. -/
def threeCells : Identity :=
  { designCapacity := 5000, designVoltage := 11400, cellCount := 3, chargeVoltageLimit := 13200,
    maxDischargeCurrent := 8000, serial := [1, 2, 3, 4, 5, 6, 7, 8], cycleCount := 12 }

/-- An ACTIVE pack at an RSOC, all items fresh. -/
def activePack (rsoc : Nat) : PackSlot :=
  { PackSlot.cleared with state := .active, identity := some threeCells, items :=
    { voltage := fresh 11400, current := fresh 0, status := fresh 0, temperature := fresh 250,
      requestedCurrent := fresh 3000, requestedVoltage := fresh 13200, rsoc := fresh rsoc,
      remainingCapacity := fresh 3000, fullCapacity := fresh 5000 } }

/-- A state with the internal pack's record. -/
def withInt (s : State) (p : PackSlot) : State := { s with packs := { s.packs with int := p } }

/-- A state with the adapter's record. -/
def withMains (s : State) (c : AdapterClass) : State :=
  { s with chg := { s.chg with adapter := { present := true, cls := c, vin := 20000, iin := 1000, bypass := false } } }

/-- A state with a request in processing. -/
def busyWith (s : State) (p : Processing) : State := { s with link := { s.link with processing := some p } }

/-- A state with a read in progress on the wires. -/
def reading (s : State) (r : CurrentRead) : State := { s with bus := { s.bus with current := some r } }

/-! ### Well-formedness: one refused term for each check, beside one that passes -/

theorem test_wf_frame_error : (Instr.frameError [0x02, 0x11, 0x01]).wellFormed = true ∧
    (Instr.frameError [0x02, 0x11, 0x01, 0xA5]).wellFormed = false ∧ (Instr.frameError []).wellFormed = false := by decide
theorem test_wf_policy_data : (Instr.writePolicy 0 0 (List.replicate 48 0)).wellFormed = true ∧
    (Instr.writePolicy 0 0 []).wellFormed = false ∧ (Instr.writePolicy 0 0 (List.replicate 49 0)).wellFormed = false := by
  decide
theorem test_wf_start_operation : (Instr.calibrationStart 0 5 0).wellFormed = true ∧
    (Instr.calibrationStart 0 1 0).wellFormed = false := by decide
theorem test_wf_attempt_result : (Instr.packAttemptEnd (.received (List.replicate 10 0))).wellFormed = true ∧
    (Instr.packAttemptEnd (.received (List.replicate 11 0))).wellFormed = false := by decide

/-! ### Frames written out from R181 and R185; checks from the polynomials of R76 and R194 over the nine ASCII digits -/

theorem test_frame_reset_link : commandOfWrite [0x02, 0x11, 0x01, 0xA5] = .resetLink 0x11 0xA5 := by decide
theorem test_frame_request_power_state : commandOfWrite [0x11, 0x22, 0x01, 0x02] = .requestPowerState 0x22 2 := by decide
theorem test_frame_set_wake_timer : commandOfWrite [0x13, 0x22, 0x04, 0x80, 0x51, 0x01, 0x00] = .setWakeTimer 0x22 86400 := by
  decide
theorem test_frame_set_keymap_entry : commandOfWrite [0x32, 0x01, 0x04, 0x07, 0x1E, 0x3B, 0x14] =
    .setKeymapEntry 0x01 0x07 0x1E 0x3B 0x14 := by decide
theorem test_frame_get_pack_record : commandOfWrite [0x40, 0x05, 0x02, 0x01, 0x00] = .getPackRecord 5 1 0 := by decide
theorem test_frame_calibration_abort : commandOfWrite [0x4A, 0x05, 0x02, 0x03, 0x01] = .calibrationAbort 5 1 := by decide
theorem test_frame_set_budget_mode : commandOfWrite [0x51, 0x05, 0x02, 0x01, 0x00] = .setBudgetMode 5 1 0 := by decide
theorem test_frame_set_fan_mode : commandOfWrite [0x59, 0x05, 0x03, 0x03, 0x28, 0x32] = .setFanMode 5 3 40 50 := by decide
theorem test_frame_read_config : commandOfWrite [0x60, 0x05, 0x04, 0x02, 0x7F, 0x03, 0x38] = .readConfig 5 2 0x037F 0x38 := by
  decide
theorem test_frame_write_policy : commandOfWrite [0x61, 0x05, 0x04, 0x00, 0x02, 0xAA, 0xBB] =
    .writePolicy 5 0x0200 [0xAA, 0xBB] := by decide
theorem test_frame_too_short : commandOfWrite [0x01, 0x05] = .frameError [0x01, 0x05] := by decide
theorem test_frame_unknown_kind : commandOfWrite [0x07, 0x05, 0x00] = .frameError [0x07, 0x05, 0x00] := by decide
theorem test_frame_empty : commandOfWrite [] = .emptyWrite := by decide
theorem test_crc8 : crc8 [0x31, 0x32, 0x33, 0x34, 0x35, 0x36, 0x37, 0x38, 0x39] = 0xF4 := by decide +kernel
theorem test_crc16 : crc16 [0x31, 0x32, 0x33, 0x34, 0x35, 0x36, 0x37, 0x38, 0x39] = 0x29B1 := by decide +kernel
theorem test_no_word_spells_a_command : decodeTableWord 8 0x01 = none ∧ State.reset.withFetchWord 8 0x01 = State.reset := by
  decide +kernel
/-- R180: a read transaction returns the frame, then 0xFF. -/
theorem test_link_read : linkRead State.reset 6 = [0x00, 0x00, Status.noData.code, 0x00, 0xFF, 0xFF] := by decide +kernel

/-! ### Worked examples of the manual -/

/-- A state with bytes of the FACTORY region written. -/
def withFactory (s : State) (at_ : Nat) (bytes : List Byte) : State :=
  { s with store := { s.store with factory := s.store.factory.writeBytes at_ bytes } }

/-- Section 2.10: shut, with zero_offset 410 and span 3,280. -/
def shut : State :=
  withFactory { running with post := { running.post with posture := .closed, lid := .active, fold := .inactive, angle := 3,
                                                         angleState := .valid, evaluated := true } }
    0x32 [0x9A, 0x01, 0xD0, 0x0C]

/-- Section 2.10, at 50: raw 729 is 35 degrees, and the lid hall keeps CLOSED. -/
theorem test_angle_sample : (after (exec (.angleSample 729) shut)).post = { shut.post with angle := 35 } := by decide +kernel

/-- Section 2.10, at 64: the lid hall goes INACTIVE at 35 degrees. -/
theorem test_hall_change :
    (after (exec (.hallDebouncedChange .lid false) { shut with post := { shut.post with angle := 35 } })).post =
      { shut.post with angle := 35, lid := .inactive, candidate := some .laptop, dwell := 250 } := by decide +kernel

/-- Section 2.10, at 314: the commit of LAPTOP ends suppression and latches POSTURE_CHANGED. -/
theorem test_dwell_expiry :
    let s := { shut with post := { shut.post with angle := 112, lid := .inactive, candidate := some .laptop } }
    let t := after (exec .dwellExpiry s)
    t.post.posture = .laptop ∧ t.kbd.suppressed = false ∧
      (t.entry .postureChanged).payload = .postureChanged .laptop 112 .angle := by decide +kernel

/-- The magnet of section 2.10, at 2,000: HALL_ONLY with the halls' candidate CLOSED. -/
theorem test_conflict_timer :
    let s := { shut with post := { shut.post with posture := .laptop, angle := 112, conflict := some 2000 } }
    (after (exec .conflictTimerExpiry s)).post =
      { s.post with mode := .hallOnly, candidate := some .closed, dwell := 250, conflict := none } := by decide +kernel

/-- A factory thermistor table that falls strictly, with R144's codes 1,310 and 1,050 at 80 and 90 degrees. -/
def thermistors : List Byte :=
  [0x46, 0x0F, 0x42, 0x0E, 0x3E, 0x0D, 0x3A, 0x0C, 0x36, 0x0B, 0x32, 0x0A, 0x2E, 0x09, 0x2A, 0x08, 0x26, 0x07, 0x22, 0x06,
   0x1E, 0x05, 0x1A, 0x04, 0xB6, 0x03, 0x84, 0x03, 0x52, 0x03, 0x20, 0x03, 0xEE, 0x02]

/-- RUN with that table. -/
def measured : State := withFactory running 0x10 thermistors

/-- R144's example: a code of 1,180 is 85.0 °C; above WARN for CHARGER_ZONE, below it for SOC_ZONE. -/
theorem test_conversion : let t := after (exec (.conversionRound 1180 1180 2800 2800) measured)
    (t.sensor .soc).temp = some 850 ∧ (t.sensor .soc).warn = false ∧ (t.sensor .charger).warn = true := by decide +kernel

/-- R145: a code above 4,050 is an open sensor, held at WARN. -/
theorem test_conversion_open : let t := after (exec (.conversionRound 1180 4051 2800 2800) measured)
    (t.sensor .charger).state = .openFault ∧ (t.sensor .charger).warn = true ∧ (t.sensor .soc).state = .valid := by
  decide +kernel

/-- A sensor that reads a temperature. -/
def reads (t : Int) : SensorRec := { SensorRec.afterReset 15000 with state := .valid, temp := some t }

/-- The sensors of section 7.3's example. -/
def heated (p : Posture) : State :=
  { running with post := { running.post with posture := p },
                 thr := { running.thr with sensors := ⟨reads 880, reads 600, reads 415, reads 400⟩ } }

/-- Section 7.3: H in LAPTOP, in TABLET, and in LAPTOP under QUIET. -/
theorem test_heat_limit : (after (exec (.setFanMode 1 0 0 0) (heated .laptop))).thr.h = 30750 ∧
    (after (exec (.setFanMode 1 0 0 0) (heated .tablet))).thr.h = 17250 ∧
    (after (exec (.setFanMode 1 1 0 0) (heated .laptop))).thr.h = 26550 := by decide +kernel

/-- Section 6.10's inputs: 65 W, INT with three cells in CONSTANT_CURRENT at 11,400 mV and 3,000 mA. -/
def charging : State :=
  let s := withMains (withInt running (activePack 50)) .w65
  { s with thr := { s.thr with h := 30750 }, bud := { s.bud with r := 15000 },
           chg := { s.chg with selected := some .int, supply := .adapter, discharge := some .int, vSet := 13200,
                               chargeVoltage := some 13200,
                               packs := ⟨{ ChargeStatus.cleared with phase := .constantCurrent }, .cleared⟩ } }

/-- Section 6.10, CHARGE_FIRST. -/
theorem test_budget_charge_first : let t := after (exec .budgetEvaluation charging)
    (t.bud.q, t.bud.pChg, t.bud.iChg, t.bud.pEff, t.bud.pProc, t.bud.r, t.chg.iSet) =
      (34200, 34200, 2944, 33561, 12750, 12750, 2944) ∧ t.bud.limiting = .request ∧ t.bud.short = false ∧
      (t.entry .processorLimit).payload = .processorLimit 12750 := by decide +kernel

/-- Section 6.10, PERFORMANCE_FIRST: the charge has no heat room and the session is held by BUDGET. -/
theorem test_budget_performance_first :
    let t := after (exec .budgetEvaluation { charging with bud := { charging.bud with mode := .performanceFirst, r := 12750 } })
    (t.bud.pChg, t.bud.pProc, t.bud.r, t.chg.iSet) = (0, 18750, 18750, 0) ∧ t.bud.limiting = .heat ∧
      (t.chg.packs.get .int).phase = .hold ∧ t.chg.hold.budget = true ∧ t.chg.budgetRetry = some 5000 := by decide +kernel

/-- Section 6.10, the third evaluation of the overload: 59,800 mW measured against A = 58,500. -/
theorem test_budget_overload :
    let s := withMains running .w65
    let s := { s with chg := { s.chg with adapter := { s.chg.adapter with iin := 2990 } },
                      bud := { s.bud with r := 18750, overload := 2 }, thr := { s.thr with h := 30750 } }
    let t := after (exec .budgetEvaluation s)
    (t.bud.a, t.bud.overload, t.bud.backoff, t.bud.pProc, t.bud.r) = (58500, 3, 2000, 16750, 16750) ∧
      (t.entry .adapterOverload).pending = true := by decide +kernel

/-- An entry of an event table with a count. -/
def pendingEntry (level count : Nat) (p : Payload) : EventEntry :=
  { pending := true, count := count, mask := false, level := level, payload := p, latchTime := 0 }

/-- Section 8.7's table. -/
def fetchTable : State :=
  { running with notice := { running.notice with floor := 4, table :=
    { freshTable with processorLimit := pendingEntry 6 0 (.processorLimit 12750), packChanged := pendingEntry 4 2 .empty,
                      keyAvailable := pendingEntry 3 0 .empty,
                      linkError := { pendingEntry 1 3 .empty with mask := true } } } }

/-- Section 8.7, the first fetch: PROCESSOR_LIMIT, 12,750, two left, ALERT released. -/
theorem test_fetch_notice : let t := after (exec (.fetchNotice 9) fetchTable)
    t.link.slot.payload = [3, 0, 0, 0, 0, 0, 2, 0xCE, 0x31, 0x00, 0x00] ∧ t.pins.alert = false ∧
      (t.entry .processorLimit).pending = false ∧ (t.entry .packChanged).count = 2 := by decide +kernel

/-- Section 1.13 at 25: CORE's up timeout. -/
theorem test_up_timeout :
    let up : RailEntry := { enabled := true, good := true, outcome := .upOk }
    let s := withPwr (inState .powerUp) fun p => { p with upWait := some (.core, 0), wakeCause := .button, rails :=
      { p.rails with mem := up, io := up, core := { RailEntry.afterReset false with enabled := true } } }
    let t := after (exec .upTimeoutExpiry s)
    t.pwr.state = .faultOff ∧ t.pwr.failureCount = 1 ∧ t.pwr.faultRecord = some (.core, .up) ∧
      t.pwr.rails.io = { up with enabled := false } ∧ (t.entry .railEvent).payload = .railEvent .core (some .up) ∧
      t.pins.alert = false ∧ t.pins.powerLed.pattern = .double 2000 250 := by decide +kernel

/-- Section 1.13: a short press in OFF with the adapter present starts POWER_UP. -/
theorem test_short_press :
    let t := after (exec .shortPress (withPwr (withMains State.reset .w65) fun p => { p with button := .held 100 }))
    t.pwr.state = .powerUp ∧ t.pwr.wakeCause = .button ∧ t.pwr.upWait = some (.mem, 20) ∧ t.pwr.rails.mem.enabled = true := by
  decide +kernel

/-- Section 4.8: REAR CURRENT's third NACK_DATA is the fifth failed read in a row. -/
theorem test_fifth_failure :
    let s := { running with packs := { running.packs with rear := { activePack 62 with failures := 4, faultCount := 4 } } }
    let t := after (exec (.packAttemptEnd .nackData) (reading s ⟨.rear, .dyn .current, 2, true, false, false⟩))
    (t.pack .rear).state = .commLost ∧ (t.pack .rear).previous = some .active ∧ (t.pack .rear).faultCount = 5 ∧
      ((t.pack .rear).fault.map fun f => (f.phase, f.outcome, f.attempts)) = some (.command, .nackData, 3) := by decide +kernel

/-- Section 5.10, with the adapter absent: the pull of REAR leaves NONE and turns the platform off. -/
theorem test_rear_pulled :
    let s := withInt { running with packs := { running.packs with rear := activePack 62 } }
      { activePack 40 with status := 0x08 }
    let t := after (exec (.packPresenceFall .rear) { s with chg := { s.chg with
      supply := .pack .rear, discharge := some .rear, judging := true, energy := .low } })
    t.chg.supply = .none ∧ t.chg.discharge = none ∧ t.chg.energy = .criticalHard ∧ t.pwr.state ≠ .run ∧
      t.pwr.downCause = .criticalHard := by decide +kernel

/-- Section 5.11, read 3: -0.5 °C holds the session with TEMP. -/
theorem test_cold_pack :
    let bytes : List Byte := [0xFB, 0xFF]
    let t := after (exec (.packAttemptEnd (.received (bytes ++ [crc8 (readHead .int (.dyn .temperature) ++ bytes)])))
      (reading charging ⟨.int, .dyn .temperature, 0, true, false, false⟩))
    (t.chg.packs.get .int).phase = .hold ∧ (t.chg.packs.get .int).band = .coldHold ∧ t.chg.hold.temp = true ∧
      t.chg.iSet = 0 ∧ (t.entry .chargeState).payload = .chargeState .int .hold .temp := by decide +kernel

/-- Section 3.13, the fourth READ_KEYS: the queue empties while overflowed, and the resync lists LSHIFT and D. -/
theorem test_read_keys_resync :
    let s := { running with now := 300, kbd := { running.kbd with
      suppressed := false, mode := .active, overflowed := true,
      queue := List.replicate 8 ⟨0x16, .press, .base, 8⟩, held := [⟨1, 0xE1, .base⟩, ⟨2, 0x07, .base⟩] } }
    let t := after (exec (.readKeys 1 8) s)
    t.link.slot.payload.take 3 = [8, 3, 1] ∧ t.kbd.overflowed = false ∧ t.kbd.queue =
      [⟨0, .resync, .base, 300⟩, ⟨0xE1, .press, .base, 300⟩, ⟨0x07, .press, .base, 300⟩] := by decide +kernel

/-- The ghost of section 3.3: 18 closes a rectangle with 9, 10 and 17 and is blocked. -/
theorem test_ghost :
    let held : PosRec := { pressed := true, count := 0, disposition := .reported }
    let s := { running with kbd := { running.kbd with
      suppressed := false, mode := .active, positions := [(9, held), (10, held), (17, held),
        (18, { pressed := false, count := 1, disposition := .free })],
      held := [⟨9, 10, .base⟩, ⟨10, 11, .base⟩, ⟨17, 18, .base⟩] } }
    let t := after (exec (.matrixScan 0x60600) s)
    (t.position 18).disposition = .blocked ∧ t.kbd.queue = [] ∧ t.kbd.held.length = 3 := by decide +kernel

/-- Section 8.8: an unanswered THERMAL_TRIP turns the platform off. -/
theorem test_escalation :
    let up : RailEntry := { enabled := true, good := true, outcome := .upOk }
    let s := withPwr { running with notice := { running.notice with tripWindow := some 0 } } fun p =>
      { p with rails := ⟨up, up, up, up, up⟩ }
    let t := after (exec (.escalationExpiry .thermalTrip) s)
    t.pwr.state = .powerDown ∧ t.pwr.downCause = .escalation ∧ t.pwr.downWait = some (.disp, 50) ∧
      t.notice.tripWindow = none := by decide +kernel

set_option maxRecDepth 100000 in
/-- R194: blank blocks fail their checks. -/
theorem test_blank_blocks_invalid : blockValid [] .prot = false ∧ blockValid [] .general = false := by decide +kernel

set_option maxRecDepth 100000 in
/-- R194 at a cold reset: the PROTECTED values are then the built-in ones. -/
theorem test_cold_reset_blank : let t := after (exec (.coldReset false) running)
    t.store.protectedValid = false ∧ t.store.policy.pMax = 45000 ∧ t.pwr.state = .off := by decide +kernel

/-! ### Witnesses: a state and operands for the hypotheses of each statement, at the ends of the ranges -/

/-- The state right after reset at a later time, so that it is not State.reset itself. -/
def later : State := { State.reset with now := 7 }

theorem witness_StepTakesFrontCommand :
    ({ later with pending := [.emptyWrite, .addressNak] } : State).pending = .emptyWrite :: [.addressNak] ∧
    later.pending = [] ∧ dueEvents later = [] ∧ ({ later with now := 1000 } : State).pending = [] ∧
    (dueEvents { later with now := 1000 }).head? = some .restoreDecision := by decide +kernel

/-- Events at the ms their time is over, and one ms before: long press, conflict, quiet time, wake timer, rest. -/
theorem witness_StepTakesFrontCommand_due :
    .longPress ∈ dueEvents (withPwr later fun p => { p with button := .held 4000 }) ∧
    .longPress ∉ dueEvents (withPwr later fun p => { p with button := .held 3999 }) ∧
    .conflictTimerExpiry ∈ dueEvents { later with post := { later.post with conflict := some 2000 } } ∧
    .conflictTimerExpiry ∉ dueEvents { later with post := { later.post with conflict := some 1999 } } ∧
    (passMs { later with post := { later.post with conflict := some 1999 } }).post.conflict = some 2000 ∧
    .quietTimeExpiry ∈ dueEvents { later with kbd := { later.kbd with mode := .active, quiet := 250 } } ∧
    .downWaitExpiry ∈ dueEvents (passMs (withPwr later fun p => { p with downWait := some (.io, 1) })) ∧
    .restExpiry ∈ dueEvents { later with chg := { later.chg with cal := { later.chg.cal with phase := .rest } } } := by
  decide +kernel

theorem witness_EveryCommandCompletes : ∀ cut, Instr.emptyWrite ≠ .coldReset cut := by intro cut h; cases h

theorem witness_ColdResetLeavesResetValues :
    (∀ tag offset data ms, later.link.processing ≠ some (.writePolicy tag offset data ms)) ∧
    later.store.image.wf = true ∧
    (busyWith later (.writePolicy 1 0 [9] 4)).link.processing = some (.writePolicy 1 0 [9] 4) ∧
    writeBlock 0 ([9] : List Byte).length = some .prot ∧ writeBlock 0x3FF ([9] : List Byte).length = some .general :=
  ⟨by (intro _ _ _ _ h; cases h), by decide +kernel, rfl, rfl, rfl⟩

theorem witness_PinsFollowEveryStep : PinsFollow later ∧ step later = .next (passMs later) :=
  ⟨{ alert := ⟨fun h => absurd h (by decide +kernel), fun h => absurd h.1 (by decide +kernel)⟩, caps := by decide +kernel,
     num := by decide +kernel, mute := by decide +kernel, backlight := by decide +kernel, powerLed := by decide +kernel,
     chargeLed := by rfl }, by rfl⟩

theorem witness_RefusedWritesAreAnswered : (carriedByWrite (.getIdentity 1) ∧ carriedByWrite (.frameError [1]) ∧
    (busyWith later (.freeze 1 5)).link.processing.isSome = true) ∧ later.link.processing = none ∧
    ([0x11] : List Byte).length < 2 ∧ 56 < (([0x11, 57] : List Byte).getD 1 0).toNat ∧
    ([0x11, 1] : List Byte).length ≠ 2 + (([0x11, 1] : List Byte).getD 1 0).toNat ∧
    ([0x11, 0] : List Byte).length = 2 + (([0x11, 0] : List Byte).getD 1 0).toNat ∧
    (([0x11, 0] : List Byte).getD 1 0).toNat ≤ 56 ∧
    payloadRange (0x07 : Byte).toNat = none ∧ payloadRange (0x02 : Byte).toNat = some (1, 1) :=
  ⟨⟨.inl rfl, .inr ⟨_, rfl⟩, rfl⟩, rfl, by decide, by decide, by decide, by decide, by decide, by decide, by decide⟩

theorem witness_RequestFramesReadBack : (Instr.writePolicy 1 0x0380 [9]).wellFormed = true ∧
    frameOf (.writePolicy 1 0x0380 [9]) = some [0x61, 1, 3, 0x80, 0x03, 9] := by decide

set_option maxRecDepth 100000 in
theorem witness_GetIdentityReports : later.link.processing = none ∧
    exec (.coldReset false) later = .next (after (exec (.coldReset false) later)) ∧
    (after (exec (.coldReset false) later)).store.protectedValid = false ∧
    (after (exec (.coldReset false) later)).store.generalValid = false ∧
    step later = .next (passMs later) ∧ (∀ cut rest, later.pending ≠ .coldReset cut :: rest) :=
  ⟨rfl, rfl, by decide +kernel, by decide +kernel, by rfl, by (intro cut rest h; cases h)⟩

theorem witness_ResetLinkMakesWarmReset : later.link.processing = none ∧ (0xA4 : Byte) ≠ 0xA5 ∧
    later.kbd.held.length ≤ 31 ∧ later.kbd.suppressed = true ∧ running.pwr.state = .run ∧ running.post.posture = .laptop ∧
    running.store.policy.keyboardDefault = true ∧
    (∃ s : State, s.kbd.suppressed = false ∧ s.pwr.state = .run ∧ s.post.posture = .laptop ∧ s.kbd.held.length = 1 ∧
      s.store.policy.keyboardDefault = false) :=
  ⟨rfl, by decide, by decide +kernel, rfl, rfl, rfl, rfl,
    { running with kbd := { running.kbd with suppressed := false, held := [⟨5, 4, .base⟩] },
                   store := { running.store with policy := { Policy.builtIn with keyboardDefault := false } } },
    rfl, rfl, rfl, rfl, rfl⟩

theorem witness_FetchNoticeReturnsTheMostUrgent : later.link.processing = none ∧ fetchTable.link.processing = none ∧
    (∀ k, ¬ ((later.entry k).pending = true ∧ (later.entry k).mask = false)) ∧
    ((fetchTable.entry .processorLimit).pending = true ∧ (fetchTable.entry .processorLimit).mask = false) ∧
    (∀ j, j ≠ .processorLimit → (fetchTable.entry j).pending = true ∧ (fetchTable.entry j).mask = false →
      (fetchTable.entry j).level < (fetchTable.entry .processorLimit).level ∨
        ((fetchTable.entry j).level = (fetchTable.entry .processorLimit).level ∧
          Kind.processorLimit.number < j.number)) :=
  ⟨rfl, rfl, by intro k; cases k <;> decide +kernel, by decide +kernel, by intro k; cases k <;> decide +kernel⟩

theorem witness_SetEventControlWritesOneKind : later.link.processing = none ∧ 25 < (26 : Byte).toNat ∧
    (1 : Byte).toNat = Kind.criticalEnergy.number ∧ (2 : Byte).toNat = Kind.thermalTrip.number ∧ (1 : Byte).toNat ≤ 1 ∧
    (25 : Byte).toNat = Kind.linkError.number ∧ Kind.linkError ≠ .criticalEnergy ∧ Kind.linkError ≠ .thermalTrip := by decide

theorem witness_SetAttentionFloor : later.link.processing = none ∧ (6 : Byte).toNat ≤ 6 ∧ 6 < (7 : Byte).toNat ∧
    exec (.setAttentionFloor 1 6) later = .next (after (exec (.setAttentionFloor 1 6) later)) ∧
    exec (.coldReset true) later = .next (after (exec (.coldReset true) later)) ∧
    exec (.resetLink 1 0xA5) later = .next (after (exec (.resetLink 1 0xA5) later)) :=
  ⟨rfl, by decide, by decide, rfl, rfl, rfl⟩

theorem witness_LatchAndEndChangeOneEntry : Kind.linkError.occurrence = true ∧ (later.entry .linkError).pending = false ∧
    (fetchTable.entry .linkError).pending = true ∧ Kind.keyAvailable.occurrence = false := by decide +kernel

/-- R145, R82: a second sensor, and a second slot's flags, join what is pending; a button press keeps its first payload. -/
theorem witness_LatchAndEndChangeOneEntry_joined :
    joined (.sensors ⟨true, false, false, false⟩) (.sensors ⟨false, false, false, true⟩) (.sensors ⟨true, false, false, true⟩) ∧
    joined (.slots ⟨true, false⟩) (.slots ⟨false, true⟩) (.slots ⟨true, true⟩) ∧
    joined (.packAlarm ⟨true, false⟩ 0x01) (.packAlarm ⟨false, true⟩ 0x82) (.packAlarm ⟨true, true⟩ 0x83) ∧
    joined (.wake .button) (.wake .timer) (.wake .button) ∧
    (let s := latch .packAlarm (.packAlarm ⟨false, true⟩ 0x82) (latch .packAlarm (.packAlarm ⟨true, false⟩ 0x01) later)
     (s.entry .packAlarm).payload = .packAlarm ⟨true, true⟩ 0x83 ∧ (s.entry .packAlarm).count = 2) :=
  ⟨rfl, rfl, rfl, rfl, by decide +kernel⟩

theorem witness_EveryStepKeepsControlsLegal : ControlsLegal later ∧ step later = .next (passMs later) :=
  ⟨⟨by intro k; cases k <;> decide +kernel, by rintro k (rfl | rfl) <;> decide +kernel⟩, rfl⟩

theorem witness_ReadConfigReturnsStoredBytes : later.link.processing = none ∧ 3 < (4 : Byte).toNat ∧
    ((3 : Byte), 1) ∈ [((0 : Byte), 256), (1, 128), (2, 896), (3, 1)] ∧ 896 ≤ (0x380 : BitVec 16).toNat ∧
    (0x37F : BitVec 16).toNat < 896 ∧ (1 : Byte) ≠ 0 := by decide

theorem witness_WritePolicyIsTestedThenProcessed : later.link.processing = none ∧ 1 ≤ ([7] : List Byte).length ∧
    ([7] : List Byte).length ≤ 48 ∧ 0x400 < (0x400 : BitVec 16).toNat + 1 ∧ (0x07F : BitVec 16).toNat + 1 ≤ 0x080 ∧
    ((0x07F : BitVec 16).toNat < 0x080 ∧ 0x080 < (0x07F : BitVec 16).toNat + 2) ∧
    ({ later with store := { later.store with frozen := true } } : State).store.frozen = true ∧ later.store.frozen = false ∧
    (0x080 ≤ (0x3FF : BitVec 16).toNat ∧ (0x3FF : BitVec 16).toNat + 1 ≤ 0x400) := by decide +kernel

/-- A write touches no enumerated field but the one at 0x201. -/
theorem only_restore {place n : Nat} {is : Policy → Nat → Bool} (h : (place, n, is) ∈ choices) (ht : touches 0x201 1 place 1) :
    n = 3 := by
  simp only [choices, List.mem_cons, List.not_mem_nil, or_false, Prod.mk.injEq] at h
  obtain ⟨h1, h2⟩ := ht
  omega

/-- R196: a restore policy of 3 and a hotkey action of 5 at the last position stand outside their sets, 2 and 4 inside. -/
theorem witness_WritePolicyIsTestedThenProcessed_sets : outsideSets later.store.image 0x201 [3] ∧
    outsideSets later.store.image 0x1FF [0x50] ∧ ¬ outsideSets later.store.image 0x201 [2] := by
  refine ⟨.inl ⟨0x201, 3, _, .head _, ⟨by decide, by decide⟩, by decide +kernel⟩,
    .inr ⟨127, by decide, ⟨by decide, by decide⟩, by decide +kernel⟩, ?_⟩
  rintro (⟨place, n, is, h, ht, hn⟩ | ⟨q, hq, ht, _⟩)
  · obtain ⟨h1, h2⟩ := ht
    have hp : place = 0x201 := by simp only [List.length_cons, List.length_nil] at h1; omega
    subst hp
    have h3 := only_restore h ⟨by decide, by decide⟩
    subst h3
    revert hn; decide +kernel
  · obtain ⟨_, h2⟩ := ht
    omega

/-- R196, R192: the restore policy, the attributes and the base code of the last position, the last duty of FAN_B's curve. -/
theorem test_policy_fields :
    (after (exec (.writePolicy 1 0x201 [3]) later)).link.slot.status = .badValue ∧
    (after (exec (.writePolicy 1 0x1FF [0x40]) later)).link.slot.status = .pending ∧
    (let t := after (exec .policyWriteComplete (busyWith later (.writePolicy 1 0x1FD [0x29, 0x3A, 0x43] 0)))
     policyKey t.store.policy 127 =
       { base := 0x29, fn := 0x3A, modifier := true, fnKey := true, wake := false, hotkey := .chargeLimitToggle }) ∧
    (let t := after (exec .policyWriteComplete (busyWith later (.writePolicy 1 0x277 [101] 0)))
     (t.store.policy.curves.get .b).points[7]? = some (0, 100) ∧ t.link.slot.status = .clamped) := by decide +kernel

theorem witness_PolicyWriteCompletes : (busyWith later (.writePolicy 1 0x200 [10] 0)).store.image.wf = true ∧
    (busyWith later (.writePolicy 1 0x200 [10] 0)).link.processing = some (.writePolicy 1 0x200 [10] 0) ∧
    writeBlock 0x200 ([10] : List Byte).length = some .general ∧ writeBlock 0x07F ([10] : List Byte).length = some .prot ∧
    touches 0x200 1 0x200 1 ∧ ¬ touches 0x201 1 0x200 1 ∧ ¬ touches 0x201 1 0x202 2 ∧ touches 0x203 1 0x202 2 ∧
    (0x200, 1, 1, 100, fun p => p.upTimeout) ∈ numbers ∧ spelled later.store.image 0x200 [0] 0x200 1 = 0 ∧
    inRangeOf (.range 1 100) 0 = 1 ∧ inRangeOf (.range 1 100) 101 = 100 ∧
    (0x00A, 300, 1250, fun p => p.socTrip) ∈ signedNumbers ∧ touches 0x00B 1 0x00A 2 ∧ 0x3FD < Block.general.checkAt ∧
    (∀ f ∈ Block.general.fields, f.offset ≤ 0x3FD → ¬ 0x3FD < f.offset + f.size) ∧
    touches 0x20D 1 0x20C 2 ∧ touches 0x201 1 0x201 1 ∧ ¬ touches 0x202 1 0x201 1 ∧
    (0x201, 3, fun p v => [RestorePolicy.stayOff, .alwaysOn, .lastState][v]? == some p.restore) ∈ choices ∧
    sparseWf builtInKey 0 later.store.policy.keymap = true ∧ touches 0x1FF 1 (0x082 + 3 * 127) 1 ∧
    ¬ touches 0x1FF 1 (0x081 + 3 * 127) 1 ∧ touches 0x246 1 (curvePlace .a) 1 ∧ touches 0x277 1 (curvePlace .b + 3 + 3 * 7) 1 ∧
    7 < (later.store.policy.curves.get .b).points.length := by
  refine ⟨by decide +kernel, rfl, rfl, rfl, ⟨by decide, by decide⟩, fun h => absurd h.2 (by decide), fun h => absurd h.1 (by decide),
    ⟨by decide, by decide⟩, by simp [numbers], by decide +kernel, by decide, by decide, by simp [signedNumbers],
    ⟨by decide, by decide⟩, by decide +kernel, by decide +kernel, ⟨by decide, by decide⟩, ⟨by decide, by decide⟩,
    fun h => absurd h.2 (by decide), .head _, by decide +kernel, ⟨by decide, by decide⟩, fun h => absurd h.2 (by decide),
    ⟨by decide, by decide⟩, ⟨by decide, by decide⟩, by decide +kernel⟩

/-- A negative current in the image is clamped to 0 (R111, R187, R194). -/
theorem test_image_current_is_signed :
    (FieldKind.signed 0 4032).clamp 0xFFFF = 0 ∧ (FieldKind.signed 50 500).clamp 0xFFFF = 50 ∧
    (writeActive .prot (writeImage .prot [] 6 [0xFF, 0xFF]) 6 2 Policy.builtIn).limits.int = 0 ∧
    (writeActive .general (writeImage .general [] 0x212 [0xFF, 0xFF]) 0x212 2 Policy.builtIn).terminationCurrent = 50 := by
  decide +kernel

/-- A stored image whose PROTECTED block is blank but for a check that matches. -/
def checkedImage : Memory := withCheck [] .prot

/-- A part whose PROTECTED block is VALID and in force. -/
def provisioned : State :=
  { later with store := { later.store with image := checkedImage, protectedValid := true,
                                           policy := loadPolicy checkedImage true false } }

set_option maxRecDepth 100000 in
/-- R194: the blank PROTECTED block with a matching check is taken, brought into range; the GENERAL one, whose check fails,
leaves its fields built in. -/
theorem witness_ColdResetLeavesResetValues_valid :
    let t := after (exec (.coldReset false) provisioned)
    t.store.protectedValid = true ∧ t.store.generalValid = false ∧ spelledIn t.store.image 0x000 2 = 0xFFFF ∧
    t.store.policy.perCellMax = 4400 ∧ t.store.policy.socTrip = 300 ∧ t.store.policy.pMax = 100000 ∧
    t.store.policy.upTimeout = 20 ∧ sparseWf builtInKey 0 Policy.builtIn.keymap = true ∧
    7 < (Policy.builtIn.curves.get .a).points.length := by decide +kernel

set_option maxRecDepth 100000 in
theorem witness_FreezePolicyFreezes : provisioned.link.processing = none ∧ (0xC2 : Byte) ≠ 0xC3 ∧
    provisioned.store.frozen = false ∧ blockValid provisioned.store.image .prot = true ∧
    provisioned.store.protectedValid = true ∧ later.store.protectedValid = false ∧
    (busyWith later (.freeze 1 0)).link.processing = some (.freeze 1 0) := by decide +kernel

/-- The same part, frozen. -/
def frozenPart : State := { provisioned with store := { provisioned.store with frozen := true } }

set_option maxRecDepth 100000 in
theorem witness_FrozenBlockNeverChanges : frozenPart.store.frozen = true ∧ ¬ writesProtected frozenPart ∧
    (∃ t, step frozenPart = .next t) ∧ blockValid frozenPart.store.image .prot = true ∧
    frozenPart.store.protectedValid = true ∧ protectedValues frozenPart.store.policy =
      protectedValues (loadPolicy frozenPart.store.image true frozenPart.store.generalValid) :=
  ⟨rfl, by (rintro ⟨_, _, _, _, h, _⟩; cases h), ⟨_, rfl⟩, by decide +kernel, rfl, rfl⟩

theorem witness_EveryStepKeepsStoredForm : later.store.image.wf = true ∧ later.store.factory.wf = true ∧
    step later = .next (passMs later) := ⟨by decide +kernel, by decide +kernel, rfl⟩

/-- RUN with no settle delay. -/
def unsettled : State := { running with store := { running.store with policy := { Policy.builtIn with settleDelay := 0 } } }

theorem witness_RequestPowerStateIsJudged : running.link.processing = none ∧ 2 < (3 : Byte).toNat ∧ (2 : Byte).toNat ≤ 2 ∧
    later.pwr.state ≠ .run ∧ running.pwr.state = .run ∧ running.pwr.transition = none ∧
    (withPwr running fun p => { p with transition := some (.off, 100) }).pwr.transition.isSome = true ∧
    (2 : Byte).toNat = PowerTarget.reboot.index ∧ running.store.policy.settleDelay ≠ 0 ∧
    unsettled.pwr.state = .run ∧ unsettled.store.policy.settleDelay = 0 := by decide +kernel

theorem witness_WakeSettingsAreJudged : running.link.processing = none ∧ (1 : Byte).getLsbD 0 = true ∧
    64 ≤ (64 : Byte).toNat ∧ (62 : Byte).getLsbD 0 = false ∧ (62 : Byte).toNat < 64 ∧ later.pwr.state ≠ .run ∧
    running.pwr.state = .run ∧ 86400 < (86401 : BitVec 32).toNat ∧ (86400 : BitVec 32).toNat ≤ 86400 := by decide +kernel

/-- A platform state with the button held. -/
def pressed (x : PlatformState) : State := withPwr (inState x) fun p => { p with button := .held 10 }

theorem witness_ButtonActsByState :
    (withPwr later fun p => { p with button := .released }).pwr.button = .released ∧ later.pwr.button ≠ .released ∧
    later.pwr.button = .unseen ∧ (∀ ms, later.pwr.button ≠ .held ms) ∧ (pressed .run).pwr.button = .held 10 ∧
    (pressed .run).pwr.state = .run ∧ (pressed .powerDown).pwr.state = .powerDown ∧
    (pressed .sleepEntry).pwr.state = .sleepEntry :=
  ⟨rfl, by decide +kernel, rfl, by (intro ms h; cases h), rfl, rfl, rfl, rfl⟩

/-- OFF with the button held and a HARD crossing. -/
def tooHot : State :=
  { pressed .off with thr := { State.reset.thr with sensors := { State.reset.thr.sensors with soc :=
    { SensorRec.afterReset 15000 with hard := true } } } }

theorem no_hard_after_reset : ¬ hardCrossing (pressed .off) := by rintro ⟨x, h⟩; cases x <;> cases h

theorem no_energy_after_reset : ¬ passesStart (pressed .off) := by
  rintro (h | ⟨k, h, _⟩)
  · cases h
  · cases k <;> cases h

theorem witness_PowerOnRequestsAreJudged :
    asksForPower .shortPress (pressed .off) .button { (pressed .off).pwr with button := .released } ∧
    asksForPower .shortPress tooHot .button { tooHot.pwr with button := .released } ∧ hardCrossing tooHot ∧
    ¬ hardCrossing (pressed .off) ∧ ¬ passesStart (pressed .off) ∧
    asksForPower .restoreDecision
      (withMains { later with store := { later.store with policy := { Policy.builtIn with restore := .alwaysOn } } } .w65)
      .restore { later.pwr with restoreTaken := true } ∧
    passesStart (withMains (pressed .off) .w65) ∧ ¬ hardCrossing (withMains (pressed .off) .w65) ∧
    ((withMains (pressed .off) .w65).pwr.rails.get .mem).good = false :=
  ⟨.inl ⟨rfl, rfl, ⟨_, rfl⟩, .inl rfl, rfl⟩, .inl ⟨rfl, rfl, ⟨_, rfl⟩, .inl rfl, rfl⟩, ⟨.soc, rfl⟩, no_hard_after_reset,
    no_energy_after_reset,
    .inr (.inr (.inr ⟨rfl, rfl, rfl, rfl, .inl rfl, rfl⟩)), .inl rfl, no_hard_after_reset, rfl⟩

/-- A rail that is up. -/
def upRail : RailEntry := { enabled := true, good := true, outcome := .upOk }

/-- A platform state with every rail up. -/
def railsUpIn (x : PlatformState) : State := withPwr (inState x) fun p => { p with rails := ⟨upRail, upRail, upRail, upRail, upRail⟩ }

theorem witness_RailsComeUpInOrder :
    (withPwr (inState .powerUp) fun p => { p with upWait := some (.mem, 20) }).pwr.upWait = some (.mem, 20) ∧
    Rail.io ≠ .mem ∧ (Rail.mem, Rail.io) ∈ [(Rail.mem, Rail.io), (.io, .core), (.core, .periph), (.periph, .disp)] ∧
    ((inState .powerUp).pwr.rails.get .io).good = false ∧
    (withPwr (inState .powerUp) fun p => { p with upWait := some (.disp, 1) }).pwr.upWait = some (.disp, 1) := by
  decide +kernel

/-- POWER_UP at its last rail, with CRITICAL energy and SOC_ZONE tripped, both windows stopped. -/
theorem witness_RailsComeUpInOrder_windows : ∃ s : State, s.pwr.upWait = some (.disp, 1) ∧
    (s.chg.energy = .critical ∨ s.chg.energy = .criticalHard) ∧ s.notice.critWindow = none ∧
    (∃ k, (s.sensor k).trip = true) ∧ s.notice.tripWindow = none ∧ (s.entry .wake).pending = false :=
  ⟨withPwr { later with chg := { later.chg with energy := .critical },
                        thr := { later.thr with sensors := { later.thr.sensors with soc :=
                          { SensorRec.afterReset 15000 with trip := true } } } } fun p => { p with upWait := some (.disp, 1) },
    rfl, .inl rfl, rfl, ⟨.soc, rfl⟩, rfl, rfl⟩

theorem witness_WayDownStarts :
    startsDown .longPress (withPwr (railsUpIn .run) fun p => { p with button := .held 4000 }) .powerDown
      { (railsUpIn .run).pwr with button := .spent, transition := none, reboot := none, downCause := .longPress } ∧
    (withPwr (railsUpIn .run) fun p => { p with transition := some (.sleep, 0) }).pwr.downWait = none ∧
    startsDown .settleExpiry (withPwr (railsUpIn .run) fun p => { p with transition := some (.sleep, 0) }) .sleepEntry
      { (railsUpIn .run).pwr with transition := none, downCause := .hostSleep, wakeCause := .none } ∧
    (railsUpIn .run).pwr.downWait = none ∧ downRails .powerDown = [] ++ .disp :: [.periph, .core, .io, .mem] ∧
    downRails .sleepEntry = [.disp, .periph, .core] ++ .io :: [] ∧
    (∀ x ∈ ([] : List Rail), isPassed (railsUpIn .run) x) ∧
    ((railsUpIn .run).pwr.rails.get .disp).enabled = true ∧ ((railsUpIn .run).pwr.rails.get .disp).good = true :=
  ⟨.inl ⟨rfl, rfl, ⟨_, rfl⟩, .inr (.inl rfl), rfl⟩, rfl,
    .inr (.inr (.inr (.inr ⟨rfl, rfl, rfl, ⟨_, rfl⟩, rfl⟩))), rfl, rfl, rfl, by (intro x h; cases h), rfl, rfl⟩

/-- A first rail whose power-good is already low, passed without a wait, and the next one waited for (R7). -/
theorem witness_WayDownStarts_passed : ∃ s : State, (∃ ms, s.pwr.button = .held ms) ∧ s.pwr.state = .run ∧
    s.pwr.downWait = none ∧ downRails .powerDown = [.disp] ++ .periph :: [.core, .io, .mem] ∧
    (∀ x ∈ [Rail.disp], isPassed s x) ∧ (s.pwr.rails.get .disp).enabled = true ∧
    (s.pwr.rails.get .periph).enabled = true ∧ (s.pwr.rails.get .periph).good = true ∧
    (after (exec .longPress s)).pwr.downWait = some (.periph, 50) ∧
    ((after (exec .longPress s)).pwr.rails.get .disp).outcome = .downOk := by
  refine ⟨withPwr (railsUpIn .run) fun p =>
      { p with button := .held 4000, rails := p.rails.set .disp { upRail with good := false } },
    ⟨_, rfl⟩, rfl, rfl, rfl, ?_, rfl, rfl, rfl, by decide +kernel, by decide +kernel⟩
  intro x h
  cases h with
  | head => exact .inr rfl
  | tail _ h => cases h

/-- A way down with one rail in its down wait and the rest as they were up. -/
def goingDown (x : PlatformState) (r : Rail) : State :=
  withPwr (railsUpIn x) fun p => { p with downWait := some (r, 50), rails := p.rails.set r { upRail with enabled := false } }

/-- The same with every later rail down already. -/
def lastDown (x : PlatformState) (r : Rail) : State :=
  withPwr (inState x) fun p => { p with downWait := some (r, 50), rails := p.rails.set r { upRail with enabled := false } }

theorem witness_WayDownGoesOn :
    (goingDown .powerDown .disp).pwr.downWait = some (.disp, 50) ∧ (goingDown .powerDown .disp).pwr.state = .powerDown ∧
    downRails .powerDown = [] ++ .disp :: [.periph, .core, .io, .mem] ∧
    endsWait (.powerGoodFall .disp) (goingDown .powerDown .disp) .disp { enabled := false, good := false, outcome := .downOk } ∧
    endsWait .downWaitExpiry (goingDown .powerDown .disp) .disp { enabled := false, good := true, outcome := .downSlow } ∧
    ((goingDown .powerDown .disp).pwr.rails.get .periph).enabled = true ∧
    ((goingDown .powerDown .disp).pwr.rails.get .periph).good = true ∧
    (∀ x ∈ ([.periph, .core, .io, .mem] : List Rail), ((lastDown .powerDown .disp).pwr.rails.get x).enabled = false) ∧
    (lastDown .sleepEntry .core).pwr.heldWake = none ∧ downRails .sleepEntry = [.disp, .periph] ++ .core :: [.io] ∧
    (∀ x ∈ ([.io] : List Rail), ((lastDown .sleepEntry .core).pwr.rails.get x).enabled = false) :=
  ⟨rfl, rfl, rfl, .inl ⟨rfl, rfl, rfl⟩, .inr ⟨rfl, rfl⟩, rfl, rfl, by decide +kernel, rfl, rfl, by decide +kernel⟩

/-- OFF entry with a critical level, a TRIP and a covered budget: the first two are latched again, the third is not, and the
settings are those of the policy (R73, R163, R179). -/
theorem witness_WayDownGoesOn_off :
    let s0 := lastDown .powerDown .mem
    let s := { s0 with
      chg := { s0.chg with energy := .critical }, bud := { s0.bud with short := false },
      kbd := { s0.kbd with enabled := false, route := .host, level := 3 },
      thr := { s0.thr with
        sensors := { s0.thr.sensors with soc := { s0.thr.sensors.soc with trip := true } },
        fans := { s0.thr.fans with a := { s0.thr.fans.a with manual := 60 } } } }
    let t := after (exec (.powerGoodFall .mem) s)
    standing s .criticalEnergy ∧ standing s .thermalTrip ∧ ¬ standing s .budgetShort ∧
    endsWait (.powerGoodFall .mem) s .mem { enabled := false, good := false, outcome := .downOk } ∧
    downRails .powerDown = [.disp, .periph, .core, .io] ++ .mem :: [] ∧ t.pwr.state = .off ∧
    (t.entry .criticalEnergy).pending = true ∧ (t.entry .thermalTrip).payload = .sensors ⟨true, false, false, false⟩ ∧
    (t.entry .budgetShort).pending = false ∧ t.kbd.enabled = true ∧ t.kbd.route = .scanner ∧ t.kbd.level = 1 ∧
    (t.thr.fans.get .a).manual = 0 :=
  ⟨.inl ⟨rfl, .inl rfl⟩, .inr (.inl ⟨rfl, .soc, rfl⟩),
    by (rintro (⟨h, _⟩ | ⟨h, _⟩ | ⟨_, h⟩) <;> cases h), .inl ⟨rfl, rfl, rfl⟩, rfl, by decide +kernel, by decide +kernel,
    by decide +kernel, by decide +kernel, by decide +kernel, by decide +kernel, by decide +kernel, by decide +kernel⟩

/-- SLEEP_ENTRY at its last rail, IO, with a wake held. -/
def lastInSleep : State := withPwr (lastDown .sleepEntry .io) fun p => { p with heldWake := some .button }

/-- IO's wait ends by its power-good and by its time, with a wake held: RESUME waits for IO, or goes on to CORE. -/
theorem witness_WayDownGoesOn_held : lastInSleep.pwr.downWait = some (.io, 50) ∧ lastInSleep.pwr.state = .sleepEntry ∧
    downRails .sleepEntry = [.disp, .periph, .core] ++ .io :: [] ∧ lastInSleep.pwr.heldWake = some .button ∧
    endsWait (.powerGoodFall .io) lastInSleep .io { enabled := false, good := false, outcome := .downOk } ∧
    endsWait .downWaitExpiry lastInSleep .io { enabled := false, good := true, outcome := .downSlow } ∧
    ((passed (lastInSleep.pwr.rails.set .io { enabled := false, good := false, outcome := .downOk }) []).get .io).good = false ∧
    ((passed (lastInSleep.pwr.rails.set .io { enabled := false, good := true, outcome := .downSlow }) []).get .io).good = true ∧
    ((passed (lastInSleep.pwr.rails.set .io { enabled := false, good := true, outcome := .downSlow }) []).get .core).good = false :=
  ⟨rfl, rfl, rfl, rfl, .inl ⟨rfl, rfl, rfl⟩, .inr ⟨rfl, rfl⟩, rfl, rfl, rfl⟩

/-- R7, R20: the last rail's slow discharge is latched, and the held wake starts RESUME. -/
theorem test_last_rail_slow : let t := after (exec .downWaitExpiry lastInSleep)
    t.pwr.state = .resume ∧ t.pwr.wakeCause = .button ∧ (t.entry .railEvent).pending = true ∧
      (t.entry .railEvent).payload = .railEvent .io none := by decide +kernel

theorem witness_RailFaultsTurnThePlatformOff :
    faultsRail .upTimeoutExpiry (withPwr (inState .powerUp) fun p => { p with upWait := some (.mem, 0) }) .mem .up
      { enabled := false, good := false, outcome := .upTimeout } ∧
    faultsRail (.powerGoodFall .core) (railsUpIn .run) .core .run { enabled := false, good := false, outcome := .lost } ∧
    faultsRail (.powerGoodFall .mem) (railsUpIn .sleepEntry) .mem .down { enabled := false, good := false, outcome := .lost } ∧
    (railsUpIn .run).pwr.state = .run ∧ (inState .off).pwr.state = .off ∧
    (∀ ms, (inState .off).pwr.downWait ≠ some (.mem, ms)) :=
  ⟨.inl ⟨rfl, rfl, ⟨_, rfl⟩, rfl⟩,
    .inr ⟨rfl, rfl, rfl, by (intro ms h; cases h), .inr (.inl ⟨.inl rfl, rfl⟩), rfl⟩,
    .inr ⟨rfl, rfl, rfl, by (intro ms h; cases h), .inr (.inr ⟨rfl, rfl, rfl⟩), rfl⟩, rfl, rfl,
    by (intro ms h; cases h)⟩

/-- Losses without a fault: a rail that is up and before its turn in POWER_DOWN, and one of SLEEP_ENTRY's. -/
theorem witness_RailFaultsTurnThePlatformOff_lost : (railsUpIn .powerDown).pwr.state = .powerDown ∧
    ((railsUpIn .powerDown).pwr.rails.get .core).enabled = true ∧ ((railsUpIn .powerDown).pwr.rails.get .core).good = true ∧
    (∀ ms, (railsUpIn .powerDown).pwr.downWait ≠ some (.core, ms)) ∧ (railsUpIn .sleepEntry).pwr.state = .sleepEntry ∧
    Rail.io ≠ .mem ∧ ((railsUpIn .sleepEntry).pwr.rails.get .io).enabled = true ∧
    (∀ ms, (goingDown .sleepEntry .disp).pwr.downWait ≠ some (.io, ms)) :=
  ⟨rfl, rfl, rfl, by (intro ms h; cases h), rfl, by decide, rfl, by (intro ms h; cases h)⟩

/-- SLEEP with the wake timer armed and TIMER in the wake set. -/
def asleep : State :=
  withPwr (inState .sleep) fun p => { p with wakeTimer := some 1, wakeTimerMs := 999, wakeSet := { p.wakeSet with timer := true } }

theorem witness_WakesStartResume :
    (timerDue asleep ∧ asleep.pwr.wakeSet.timer = true ∧ asleep.pwr.state = .sleep ∧
      (asleep.pwr.rails.get .io).good = false) ∧
    ((pressed .sleepEntry).pwr.button = .held 10 ∧ (pressed .sleepEntry).pwr.state = .sleepEntry) :=
  ⟨⟨.inl rfl, rfl, rfl, rfl⟩, by decide +kernel⟩

/-- The wake timer's last second ends, one counts on, and one stands still in RUN. -/
theorem witness_WakesStartResume_counts :
    asleep.pwr.wakeTimer = some 1 ∧ asleep.pending = [] ∧ dueEvents asleep = [] ∧ timerCounts asleep ∧
    999 ≤ asleep.pwr.wakeTimerMs ∧ (withPwr asleep fun p => { p with wakeTimerMs := 0 }).pwr.wakeTimerMs < 999 ∧
    (withPwr asleep fun p => { p with wakeTimer := some 2 }).pwr.wakeTimer = some 2 ∧ ¬ timerCounts running ∧
    (match step asleep with
      | .next t => decide (t.pwr.wakeTimer = none ∧ dueEvents t = [.wakeTimerExpiry])
      | _ => false) = true := by decide +kernel

/-- An expiry not taken when another event leaves SLEEP is lost with it (R18). -/
theorem test_expiry_lost_with_the_state :
    (changeState .resume (withPwr asleep fun p => { p with wakeTimer := none, wakeExpired := true })).pwr.wakeExpired = false := by
  decide +kernel

theorem witness_SequencerTimersWithNothingToDo : later.pwr.upWait = none ∧ later.pwr.downWait = none ∧
    later.pwr.transition = none ∧ (∀ ms, later.pwr.reboot ≠ some (.offTime ms)) ∧ ¬ timerDue later ∧
    (timerDue (withPwr asleep fun p => { p with wakeSet := later.pwr.wakeSet }) ∧
      later.pwr.wakeSet.timer = false) ∧
    running.pwr.state ≠ .off ∧ later.store.policy.restore = .stayOff ∧ windowLeft .criticalEnergy later = none :=
  ⟨rfl, rfl, rfl, by (intro ms h; cases h), by (rintro (h | h) <;> cases h), ⟨.inl rfl, rfl⟩, by decide +kernel, rfl, rfl⟩

/-! The posture monitor's states: an open machine at 112 degrees with its sensors known. -/

/-- A posture record at an angle with both halls INACTIVE. -/
def opened (angle : Nat) : PostureMonitor :=
  { State.reset.post with lid := .inactive, fold := .inactive, angle := angle, angleState := .valid, evaluated := true }

/-- RUN with a posture record, and the hinge calibrated as in section 2.10. -/
def atHinge (p : PostureMonitor) : State := withFactory { running with post := p } 0x32 [0x9A, 0x01, 0xD0, 0x0C]

theorem witness_PostureInputsAreEvaluated :
    evaluates (.hallDebouncedChange .lid true) (atHinge State.reset.post) { State.reset.post with lid := .active } ∧
    ({ State.reset.post with lid := .active } : PostureMonitor).fold = .unknown ∧
    evaluates (.hallDebouncedChange .lid true) (atHinge { opened 45 with evaluated := false })
      { opened 45 with evaluated := false, lid := .active } ∧
    conflicting { opened 45 with evaluated := false, lid := .active } ∧
    evaluates (.hallDebouncedChange .fold true) (atHinge (opened 269)) { opened 269 with fold := .active } ∧
    conflicting { opened 269 with fold := .active } ∧
    evaluates (.hallDebouncedChange .fold true) (atHinge (opened 270)) { opened 270 with fold := .active } ∧
    ¬ conflicting { opened 270 with fold := .active } ∧ isCandidate { opened 270 with fold := .active } .tablet ∧
    evaluates (.hallDebouncedChange .lid false) (atHinge { opened 112 with mode := .hallOnly, lid := .active })
      { opened 112 with mode := .hallOnly } ∧
    isCandidate { opened 112 with mode := .hallOnly } .laptop ∧ ¬ conflicting { opened 112 with mode := .hallOnly } ∧
    (opened 269).conflict = none ∧ ({ opened 269 with conflict := some 3 } : PostureMonitor).conflict.isSome = true ∧
    evaluates (.hallDebouncedChange .lid true) (atHinge { opened 112 with mode := .hallOnly })
      { opened 112 with mode := .hallOnly, lid := .active } ∧
    isCandidate { opened 112 with mode := .hallOnly, lid := .active } .closed ∧
    conflicting { opened 112 with mode := .hallOnly, lid := .active } := by
  refine ⟨.inl ⟨true, rfl, rfl⟩, rfl, .inl ⟨true, rfl, rfl⟩, ⟨by decide, .inl ⟨rfl, by decide⟩⟩, .inr (.inl ⟨true, rfl, rfl⟩),
    ⟨by decide, .inr ⟨rfl, by decide⟩⟩, .inr (.inl ⟨true, rfl, rfl⟩), ?_, .inr (.inl ⟨by decide, rfl, rfl⟩),
    .inl ⟨false, rfl, rfl⟩, .inr (.inr (.inl ⟨by decide, by decide, rfl, rfl⟩)), ?_, rfl, rfl, .inl ⟨true, rfl, rfl⟩,
    .inl ⟨rfl, rfl⟩, ⟨by decide, .inl ⟨rfl, by decide⟩⟩⟩
  · rintro ⟨_, ⟨h, _⟩ | ⟨_, h⟩⟩ <;> revert h <;> decide
  · rintro ⟨_, ⟨h, _⟩ | ⟨h, _⟩⟩ <;> revert h <;> decide

/-- Angle bands: each posture's band and exit limits at their ends (R35, R36). -/
theorem witness_PostureInputsAreEvaluated_bands : band 19 = .closed ∧ band 20 = .laptop ∧ band 199 = .laptop ∧
    band 200 = .tent ∧ band 319 = .tent ∧ band 320 = .tablet ∧ holds .closed 27 ∧ ¬ holds .closed 28 ∧ holds .laptop 12 ∧
    ¬ holds .laptop 11 ∧ holds .laptop 207 ∧ ¬ holds .laptop 208 ∧ holds .tent 192 ∧ holds .tablet 312 := by
  simp [band, holds]

theorem witness_CommitsReachEveryConsumer : later.post.candidate = none ∧
    commits .dwellExpiry (atHinge { opened 112 with candidate := some .closed }) { opened 112 with candidate := some .closed }
      .closed ∧
    running.pwr.state ≠ .sleepEntry ∧
    commits (.hallDebouncedChange .fold false) (atHinge { opened 112 with evaluated := false, fold := .unknown })
      { opened 112 with evaluated := true } .laptop ∧
    commits .dwellExpiry { inState .sleep with post := { opened 112 with posture := .closed, candidate := some .laptop } }
      { opened 112 with posture := .closed, candidate := some .laptop } .laptop ∧
    ((inState .sleep).pwr.rails.get .io).good = false ∧ (inState .sleep).pwr.wakeSet.lidOpen = true := by
  refine ⟨rfl, .inl ⟨rfl, rfl, rfl⟩, by decide +kernel, .inr (.inl ⟨{ opened 112 with evaluated := false },
    .inr (.inl ⟨false, rfl, rfl⟩), rfl, by decide, by decide, rfl, ?_,
    .inr (.inr (.inr ⟨by decide, by decide, rfl, .inr (.inr ⟨by decide, .inl rfl, ?_⟩)⟩)), rfl⟩),
    .inl ⟨rfl, rfl, rfl⟩, rfl, rfl⟩
  · rintro ⟨_, ⟨h, _⟩ | ⟨h, _⟩⟩ <;> revert h <;> decide
  · simp [band, opened]

/-- First evaluations in HALL_ONLY mode: after an angle rail fault, and with a valid angle, which starts the return. -/
theorem witness_CommitsReachEveryConsumer_halls :
    commits (.hallDebouncedChange .fold false)
      (atHinge { opened 112 with evaluated := false, mode := .hallOnly, angleState := .railFault, fold := .unknown })
      { opened 112 with mode := .hallOnly, angleState := .railFault } .laptop ∧
    commits (.hallDebouncedChange .fold false)
      (atHinge { opened 112 with evaluated := false, mode := .hallOnly, fold := .unknown })
      { opened 112 with mode := .hallOnly, returning := true } .laptop := by
  refine ⟨.inr (.inr ⟨{ opened 112 with evaluated := false, mode := .hallOnly, angleState := .railFault }, false,
      .inr (.inl ⟨false, rfl, rfl⟩), rfl, by decide, by decide, rfl, .inr (.inr (.inl ⟨by decide, by decide, rfl, rfl⟩)),
      ⟨fun h => absurd h (by decide), fun h => absurd h.1 (by decide)⟩, rfl⟩),
    .inr (.inr ⟨{ opened 112 with evaluated := false, mode := .hallOnly }, true, .inr (.inl ⟨false, rfl, rfl⟩), rfl, by decide,
      by decide, rfl, .inr (.inr (.inl ⟨by decide, by decide, rfl, rfl⟩)), ⟨fun _ => ⟨rfl, ?_⟩, fun _ => rfl⟩, rfl⟩)⟩
  rintro ⟨_, ⟨h, _⟩ | ⟨h, _⟩⟩ <;> revert h <;> decide

/-- The thermal records at a commit to LAPTOP: the deck above its WARN threshold, between it and the clearing point, and
far below; and a wake from SLEEP_ENTRY. -/
theorem witness_CommitsReachEveryConsumer_thermal : ∃ s : State,
    commits .dwellExpiry s s.post .laptop ∧ s.pwr.state = .sleepEntry ∧ s.post.posture = .closed ∧
    s.pwr.wakeSet.lidOpen = true ∧ (s.sensor .deck).state = .valid ∧ (s.sensor .deck).temp = some 500 ∧
    (s.sensor .deck).warn = false ∧ (s.sensor .base).temp = some 200 ∧
    ((after (exec .dwellExpiry s)).sensor .deck).warn = true ∧ floorHolds (after (exec .dwellExpiry s)) .b ∧
    ¬ floorHolds (after (exec .dwellExpiry s)) .a := by
  refine ⟨{ inState .sleepEntry with
      post := { opened 112 with posture := .closed, candidate := some .laptop },
      thr := { running.thr with sensors := ⟨reads 300, reads 300, reads 500, reads 200⟩ } },
    .inl ⟨rfl, rfl, rfl⟩, rfl, rfl, rfl, rfl, rfl, rfl, rfl, by decide +kernel, ⟨.deck, .inr (.inl rfl), .inl (by decide +kernel)⟩, ?_⟩
  rintro ⟨k, hk, h⟩
  cases hk
  rcases h with h | h | h <;> revert h <;> decide +kernel

theorem witness_ModeChangesOfThePostureMonitor : later.post.conflict = none ∧ later.post.mode = .angle ∧
    ¬ goodSample (atHinge (opened 112)) 19 ∧ ¬ goodSample (atHinge (opened 112)) 4076 ∧
    goodSample (atHinge (opened 112)) 20 ∧ goodSample (atHinge (opened 112)) 4075 ∧
    ({ opened 112 with mode := .hallOnly } : PostureMonitor).mode = .hallOnly ∧ (opened 112).mode = .angle ∧
    (opened 112).evaluated = true ∧ State.reset.post.evaluated = false ∧
    ({ opened 112 with conflict := some 2000, lid := .active } : PostureMonitor).conflict.isSome = true ∧
    isCandidate { opened 112 with conflict := some 2000, lid := .active, mode := .hallOnly } .closed ∧
    isCandidate { opened 112 with angleState := .railFault, mode := .hallOnly } .laptop ∧
    ¬ conflicting { opened 112 with mode := .hallOnly, returning := true } ∧
    isCandidate { opened 112 with mode := .angle, returning := true } .laptop := by
  refine ⟨rfl, rfl, fun h => absurd h.1 (by decide), fun h => absurd h.2.1 (by decide),
    ⟨by decide, by decide, by decide +kernel⟩, ⟨by decide, by decide, by decide +kernel⟩, rfl, rfl, rfl, rfl, rfl,
    .inl ⟨rfl, rfl⟩, .inr (.inr (.inl ⟨by decide, by decide, rfl, rfl⟩)), ?_,
    .inr (.inr (.inr ⟨by decide, by decide, rfl, .inr (.inl ⟨by decide, rfl, ?_, rfl⟩)⟩))⟩
  · rintro ⟨_, ⟨h, _⟩ | ⟨h, _⟩⟩ <;> revert h <;> decide
  · simp [holds, opened, State.reset]

/-! The scanner's states: RUN, LAPTOP, reporting. -/

/-- RUN and LAPTOP with a scanner that reports, its positions and its queue. -/
def typing (positions : List (Nat × PosRec)) (queue : List KeyRecord) : State :=
  { running with kbd := { running.kbd with mode := .active, suppressed := false, positions := positions, queue := queue } }

/-- A key record. -/
def someKey : KeyRecord := ⟨0x04, .press, .base, 8⟩

theorem witness_ReadKeysDrainsTheQueue : (typing [] []).link.processing = none ∧ (typing [] []).kbd.queue = [] ∧
    (typing [] (List.replicate 9 someKey)).kbd.queue.drop (keysWanted 8) ≠ [] ∧
    (typing [] [someKey, someKey]).kbd.queue.drop (keysWanted 0) ≠ [] ∧
    (typing [] (List.replicate 8 someKey)).kbd.queue ≠ [] ∧
    (typing [] (List.replicate 8 someKey)).kbd.queue.drop (keysWanted 9) = [] ∧
    (typing [] [someKey]).kbd.overflowed = false ∧
    ({ (typing [] [someKey]).kbd with overflowed := true } : Keyboard).overflowed = true ∧
    (typing [] [someKey]).kbd.held.length ≤ 12 := by decide +kernel

theorem witness_SetKeyboardControlWritesTheSettings : (typing [] []).link.processing = none ∧ 1 < (2 : Byte).toNat ∧
    (1 : Byte).toNat ≤ 1 ∧ (typing [] []).kbd.suppressed = false ∧ running.kbd.suppressed = true ∧
    (after (exec (.setKeyboardControl 1 1 0 0 0 0 3) (typing [] []))).kbd.suppressed = true ∧
    (after (exec (.setKeyboardControl 1 0 0 0 0 0 4) (typing [] []))).kbd.suppressed = false ∧
    (typing [] []).kbd.overflowed = false ∧
    (typing [] []).kbd.queue.length + (typing [] []).kbd.held.length ≤ 32 := by decide +kernel

theorem witness_SetKeymapEntryOverridesOnePosition : later.link.processing = none ∧ 127 < (128 : Byte).toNat ∧
    4 < (0x50 : Byte).toNat / 16 % 8 ∧ (127 : Byte).toNat ≤ 127 ∧
    (0x4F : Byte).toNat / 16 % 8 = HotkeyAction.chargeLimitToggle.index ∧
    sparseWf (fun _ => (none : Option KeyEntry)) 0 later.kbd.overrides = true := by decide +kernel

/-- A position with a count running. -/
def counting (pressed : Bool) (count : Nat) (d : Disposition) : PosRec := { pressed := pressed, count := count, disposition := d }

theorem witness_MatrixScanDebounces : (typing [(5, counting true 2 .reported)] []).kbd.mode = .active ∧
    tableForm (typing [(5, counting true 2 .reported)] []) ∧ 127 < 128 ∧
    (0 : BitVec 128).getLsbD 127 = ((typing [(5, counting true 2 .reported)] []).position 127).pressed ∧
    (0 : BitVec 128).getLsbD 5 ≠ ((typing [(5, counting true 2 .reported)] []).position 5).pressed ∧
    threshold (typing [(5, counting true 2 .reported)] []) true ≤ 2 + 1 ∧
    0 + 1 < threshold (typing [] []) false := by unfold tableForm; decide +kernel

theorem typing_elsewhere (r : PosRec) (q : Nat) (h : q ≠ 5) : (typing [(5, r)] []).position q = freeRecord := by
  have e : ((5 : Nat) == q) = false := by simp; omega
  simp only [State.position, typing, sparseGet]
  split <;> simp_all [freePosition, freeRecord]

theorem witness_OneKeyIsReported : 5 < 128 ∧ (typing [(5, counting false 1 .free)] []).kbd.mode = .active ∧
    tableForm (typing [(5, counting false 1 .free)] []) ∧ (typing [(5, counting false 1 .free)] []).kbd.suppressed = false ∧
    (typing [(5, counting false 1 .free)] []).kbd.overflowed = false ∧
    (typing [(5, counting false 1 .free)] []).kbd.queue.length < 32 ∧
    (∀ q, q ≠ 5 → (typing [(5, counting false 1 .free)] []).position q = freeRecord) ∧
    (typing [(5, counting false 1 .free)] []).position 5 =
      { pressed := false, count := threshold (typing [(5, counting false 1 .free)] []) false - 1, disposition := .free } ∧
    (keyInForce (typing [(5, counting false 1 .free)] []) 5).fnKey = false ∧
    (keyInForce (typing [(5, counting false 1 .free)] []) 5).base ≠ 0 ∧
    (typing [(5, counting false 1 .free)] []).kbd.held.length < 12 ∧
    (typing [(5, counting true 2 .reported)] []).position 5 =
      { pressed := true, count := threshold (typing [(5, counting true 2 .reported)] []) true - 1, disposition := .reported } ∧
    ([⟨5, 6, .base⟩] : List HeldKey) = [] ++ ⟨5, 6, .base⟩ :: [] :=
  ⟨by decide, rfl, by (unfold tableForm; decide +kernel), rfl, rfl, by decide +kernel, typing_elsewhere _, by decide +kernel, by decide +kernel,
    by decide +kernel, by decide +kernel, by decide +kernel, rfl⟩

/-! Presses by their keymap entry: position 5 beside keys that are held. -/

/-- A position that is held with a disposition. -/
def down (d : Disposition) : PosRec := { pressed := true, count := 0, disposition := d }

/-- Position 5 at the scan that takes its press, with a keymap entry, beside other positions. -/
def pressing (e : KeyEntry) (others : List (Nat × PosRec)) : State :=
  let s := typing ((5, counting false 1 .free) :: others) []
  { s with kbd := { s.kbd with overrides := [(5, some e)] } }

/-- An entry with a base and an Fn code. -/
def keyWith (base fn : Byte) : KeyEntry :=
  { base := base, fn := fn, modifier := false, fnKey := false, wake := false, hotkey := .none }

/-- Off the positions that may be BLOCKED, none is. -/
theorem none_blocked (p : Nat) : ∀ (l : List (Nat × PosRec)) (q : Nat), q ≠ p →
    (l.all fun x => x.1 == p || decide (x.2.disposition ≠ .blocked)) = true →
    (sparseGet freePosition l q).disposition ≠ .blocked := by
  intro l
  induction l with
  | nil => intro q _ _ h; cases h
  | cons x l ih =>
    intro q hq hl
    simp only [List.all_cons, Bool.and_eq_true, Bool.or_eq_true, beq_iff_eq, decide_eq_true_eq] at hl
    simp only [sparseGet]
    split
    next e => exact hl.1.resolve_left fun h => hq (e ▸ h)
    next => exact ih q hq hl.2

/-- The hypotheses of `steady`, decided on a concrete state. -/
theorem steady_of (s : State) (raw : BitVec 128) (p : Nat) (hp : p < 128) (hm : s.kbd.mode = .active)
    (hw : sparseWf freePosition 0 s.kbd.positions = true)
    (hb : (s.kbd.positions.all fun x => x.1 == p || decide (x.2.disposition ≠ .blocked)) = true)
    (hr : ∀ q, q < 128 → q ≠ p → raw.getLsbD q = (s.position q).pressed) : steady s raw p :=
  ⟨hp, hm, hw, fun q hq => none_blocked p _ q hq hb, hr⟩

/-- Two keys close no rectangle. -/
theorem two_keys_close_none (s : State) (p f : Nat) :
    ¬ closesGhost s (BitVec.twoPow 128 p ||| BitVec.twoPow 128 f) p := by
  rintro ⟨_, d, n, _, _, hd, hn, h⟩
  have h1 := (h (p / 8 * 8 + n) (.inl rfl)).1
  have h2 := (h (d * 8 + p % 8) (.inr (.inl rfl))).1
  simp only [BitVec.getLsbD_or, BitVec.getLsbD_twoPow, Bool.or_eq_true, Bool.and_eq_true, decide_eq_true_eq] at h1 h2
  omega

/-- One press of each kind of entry: Fn key, unused, a hotkey with Fn held, a key in the Fn layer, one with a full table. -/
theorem witness_PressesActByTheirKeymapEntry : ∀ s : State,
    (s = pressing { keyWith 4 0 with fnKey := true } [] ∨ s = pressing (keyWith 0 0) [] ∨ s = pressing (keyWith 4 0) []) →
    steady s (BitVec.twoPow 128 5 ||| BitVec.twoPow 128 5) 5 ∧
    taken s (BitVec.twoPow 128 5 ||| BitVec.twoPow 128 5) 5 true ∧ s.kbd.suppressed = false ∧
    (s.position 5).disposition = .free ∧ ¬ closesGhost s (BitVec.twoPow 128 5 ||| BitVec.twoPow 128 5) 5 := by
  rintro s (rfl | rfl | rfl) <;>
  exact ⟨steady_of _ _ _ (by decide) rfl (by decide +kernel) (by decide +kernel) (by decide +kernel),
    ⟨by decide +kernel, by decide +kernel, by decide +kernel⟩, rfl, by decide +kernel, two_keys_close_none _ _ _⟩

theorem witness_PressesActByTheirKeymapEntry_fn : ∀ s : State,
    (s = pressing { keyWith 4 5 with hotkey := .fanBoost } [(127, down .fn)] ∨
      s = pressing (keyWith 4 5) [(127, down .fn)]) →
    steady s (BitVec.twoPow 128 5 ||| BitVec.twoPow 128 127) 5 ∧
    taken s (BitVec.twoPow 128 5 ||| BitVec.twoPow 128 127) 5 true ∧
    ¬ closesGhost s (BitVec.twoPow 128 5 ||| BitVec.twoPow 128 127) 5 ∧ fnDown s ∧ s.kbd.route = .scanner ∧
    (s.position 5).disposition = .free := by
  rintro s (rfl | rfl) <;>
  exact ⟨steady_of _ _ _ (by decide) rfl (by decide +kernel) (by decide +kernel) (by decide +kernel),
    ⟨by decide +kernel, by decide +kernel, by decide +kernel⟩, two_keys_close_none _ _ _, ⟨127, by decide +kernel⟩, rfl,
    by decide +kernel⟩

/-- What the steps of R56 to R59 answer on those states, beside the table of twelve. -/
theorem test_presses :
    let both : BitVec 128 := BitVec.twoPow 128 5 ||| BitVec.twoPow 128 127
    ((after (exec (.matrixScan 0x20) (pressing { keyWith 4 0 with fnKey := true } []))).position 5).disposition = .fn ∧
    ((after (exec (.matrixScan 0x20) (pressing (keyWith 0 0) []))).position 5).disposition = .ignored ∧
    (after (exec (.matrixScan both) (pressing { keyWith 4 5 with hotkey := .fanBoost } [(127, down .fn)]))).thr.mode =
      .performance ∧
    (after (exec (.matrixScan both) (pressing (keyWith 4 5) [(127, down .fn)]))).kbd.queue = [⟨5, .press, .fn, 0⟩] ∧
    (let s := pressing (keyWith 4 5) []
     let t := after (exec (.matrixScan 0x20) { s with kbd := { s.kbd with held := List.replicate 12 ⟨9, 4, .base⟩ } })
     (t.position 5).disposition = .rollover ∧ (t.entry .keyRollover).pending = true ∧ t.kbd.queue = []) := by decide +kernel

/-- The ghost of section 3.3 with 18 in a disposition: 9, 10 and 17 are held. -/
def ghosted (r : PosRec) : State := typing [(9, down .reported), (10, down .reported), (17, down .reported), (18, r)] []

/-- Under suppression, in a platform state with KEYBOARD in the wake set and a wake key at 5. -/
def latentPress (x : PlatformState) : State :=
  let s := pressing { keyWith 4 0 with wake := true } []
  { s with kbd := { s.kbd with suppressed := true },
           pwr := { s.pwr with state := x, wakeSet := { s.pwr.wakeSet with keyboard := true } } }

theorem witness_GhostedAndLatentPressesAreHeldBack :
    (steady (ghosted (counting false 1 .free)) 0x60600 18 ∧ taken (ghosted (counting false 1 .free)) 0x60600 18 true ∧
      (ghosted (counting false 1 .free)).kbd.suppressed = false ∧
      ((ghosted (counting false 1 .free)).position 18).disposition = .free ∧
      closesGhost (ghosted (counting false 1 .free)) 0x60600 18) ∧
    (steady (ghosted (down .blocked)) 0x60600 18 ∧ ((ghosted (down .blocked)).position 18).disposition = .blocked ∧
      closesGhost (ghosted (down .blocked)) 0x60600 18) ∧
    (steady (typing [(5, down .blocked)] []) (BitVec.twoPow 128 5 ||| BitVec.twoPow 128 5) 5 ∧
      ((typing [(5, down .blocked)] []).position 5).disposition = .blocked ∧
      ¬ closesGhost (typing [(5, down .blocked)] []) (BitVec.twoPow 128 5 ||| BitVec.twoPow 128 5) 5) ∧
    (steady (typing [(5, counting true 2 .rollover)] []) 0 5 ∧ taken (typing [(5, counting true 2 .rollover)] []) 0 5 false ∧
      ((typing [(5, counting true 2 .rollover)] []).position 5).disposition ≠ .reported) :=
  ⟨⟨steady_of _ _ _ (by decide) rfl (by decide +kernel) (by decide +kernel) (by decide +kernel),
      ⟨by decide +kernel, by decide +kernel, by decide +kernel⟩, rfl, by decide +kernel,
      ⟨by decide +kernel, 1, 1, by decide, by decide, by decide, by decide, by
        rintro q (rfl | rfl | rfl) <;> decide +kernel⟩⟩,
    ⟨steady_of _ _ _ (by decide) rfl (by decide +kernel) (by decide +kernel) (by decide +kernel), by decide +kernel,
      ⟨by decide +kernel, 1, 1, by decide, by decide, by decide, by decide, by
        rintro q (rfl | rfl | rfl) <;> decide +kernel⟩⟩,
    ⟨steady_of _ _ _ (by decide) rfl (by decide +kernel) (by decide +kernel) (by decide +kernel), by decide +kernel,
      two_keys_close_none _ _ _⟩,
    ⟨steady_of _ _ _ (by decide) rfl (by decide +kernel) (by decide +kernel) (by decide +kernel),
      ⟨by decide +kernel, by decide +kernel, by decide +kernel⟩, by decide +kernel⟩⟩

theorem witness_GhostedAndLatentPressesAreHeldBack_wakes : ∀ x, x = .sleep ∨ x = .sleepEntry ∨ x = .run →
    steady (latentPress x) (BitVec.twoPow 128 5 ||| BitVec.twoPow 128 5) 5 ∧
    taken (latentPress x) (BitVec.twoPow 128 5 ||| BitVec.twoPow 128 5) 5 true ∧ (latentPress x).kbd.suppressed = true ∧
    wakePressed (latentPress x) (BitVec.twoPow 128 5 ||| BitVec.twoPow 128 5) 5 ∧
    ((latentPress x).pwr.rails.get .io).good = false := by
  rintro x (rfl | rfl | rfl) <;>
  exact ⟨steady_of _ _ _ (by decide) rfl (by decide +kernel) (by decide +kernel) (by decide +kernel),
    ⟨by decide +kernel, by decide +kernel, by decide +kernel⟩, rfl,
    ⟨by decide +kernel, rfl, by decide +kernel, two_keys_close_none _ _ _, rfl⟩, rfl⟩

theorem witness_ScannerTimersAct : later.kbd.mode ≠ .active ∧ later.kbd.mode ≠ .idleDetect ∧
    ({ later.kbd with mode := .idleDetect } : Keyboard).mode = .idleDetect ∧ (typing [] []).kbd.mode = .active ∧
    (typing [] []).kbd.positions = [] ∧ (typing [(5, counting false 1 .free)] []).kbd.positions ≠ [] ∧
    ({ later.kbd with idle := some 0 } : Keyboard).idle.isSome = true ∧ later.kbd.idle = none := by decide +kernel

/-! The pack bus controller's states. -/

/-- RUN with the internal pack ACTIVE. -/
def packed : State := withInt running (activePack 50)

theorem witness_PackRequestsReport : packed.link.processing = none ∧ 1 < (2 : Byte).toNat ∧
    (0 : Byte).toNat = slotIndex .int ∧ (1 : Byte).toNat = slotIndex .rear ∧ (1 : Byte).toNat ≤ 1 ∧
    (packed.pack .rear).state = .empty ∧ (packed.pack .int).state ≠ .empty ∧
    fitsRecord (packed.pack .int) ∧ freshReads (packed.pack .int) ∧
    ¬ freshReads { activePack 50 with state := .rejected } ∧
    (busyWith packed (.freshRead 1 .int true)).link.processing = some (.freshRead 1 .int true) ∧
    (∀ tag k, packed.link.processing ≠ some (.freshRead tag k true)) :=
  ⟨rfl, by decide, rfl, rfl, by decide, rfl, by decide +kernel, ⟨by decide +kernel, by (intro d h; cases h; rfl)⟩, .inl rfl,
    by (rintro (h | ⟨h, _⟩) <;> cases h), rfl, by (intro _ _ h; cases h)⟩

/-- The third and the first read of a fresh read on the wires, with an OK and a failing end. -/
theorem witness_PackRequestsReport_reads :
    let read : CurrentRead := ⟨.int, .dyn .status, 2, true, false, true⟩
    let s := busyWith { (reading packed read) with bus := { (reading packed read).bus with fresh := some ⟨.int, []⟩ } }
      (.freshRead 1 .int false)
    s.link.processing = some (.freshRead 1 .int false) ∧ s.bus.fresh = some ⟨.int, []⟩ ∧ onTheWires s read ∧
    read.fresh = true ∧ goodRead .int (.dyn .status) [0, 0, crc8 (readHead .int (.dyn .status) ++ [0, 0])] ∧
    2 ≤ read.attempts ∧ failsWith .int (.dyn .status) .nackAddress .address .nackAddress ∧
    (match exec (.packAttemptEnd .nackAddress) s with
      | .next t => decide (t.link.processing = some (.freshRead 1 .int true) ∧ t.bus.fresh = none)
      | _ => false) = true ∧
    (match exec (.packAttemptEnd .nackAddress) { s with bus := { s.bus with fresh := some ⟨.int, [.status]⟩ } } with
      | .next t => decide (t.link.processing = some (.freshRead 1 .int false) ∧ t.bus.fresh = some ⟨.int, [.status]⟩)
      | _ => false) = true :=
  ⟨rfl, rfl, ⟨rfl, rfl, rfl⟩, rfl, .inl ⟨by decide, 0, 0, rfl⟩, by decide, .inl ⟨rfl, rfl, rfl⟩, by decide +kernel,
    by decide +kernel⟩

theorem witness_PresenceChangesASlot : (packed.pack .int).state ≠ .empty ∧ (packed.pack .rear).state = .empty ∧
    (∀ r, packed.bus.current = some r → r.slot ≠ .rear ∨ r.discard = true) ∧
    (reading packed ⟨.int, .dyn .voltage, 0, true, false, false⟩).bus.current =
      some ⟨.int, .dyn .voltage, 0, true, false, false⟩ ∧
    (busyWith packed (.freshRead 1 .int false)).link.processing = some (.freshRead 1 .int false) ∧
    (∀ tag done, packed.link.processing ≠ some (.freshRead tag .int done)) :=
  ⟨by decide +kernel, rfl, by (intro r h; cases h), rfl, rfl, by (intro _ _ h; cases h)⟩

/-- PACK_CHANGE wakes from SLEEP and SLEEP_ENTRY. -/
theorem witness_PresenceChangesASlot_wakes : ∃ s u : State, (s.pack .int).state ≠ .empty ∧ s.pwr.state = .sleep ∧
    s.pwr.wakeSet.packChange = true ∧ (s.pwr.rails.get .io).good = false ∧
    (after (exec (.packPresenceFall .int) s)).pwr.state = .resume ∧ (u.pack .int).state ≠ .empty ∧
    u.pwr.state = .sleepEntry ∧ u.pwr.wakeSet.packChange = true ∧
    (after (exec (.packPresenceFall .int) u)).pwr.heldWake = some .packChange :=
  ⟨withInt (withPwr (inState .sleep) fun p => { p with wakeSet := { p.wakeSet with packChange := true } }) (activePack 50),
    withInt (withPwr (inState .sleepEntry) fun p => { p with wakeSet := { p.wakeSet with packChange := true } })
      (activePack 50),
    by decide +kernel, rfl, rfl, rfl, by decide +kernel, by decide +kernel, rfl, rfl, by decide +kernel⟩

theorem witness_ReadsAreScheduled : scheduleRuns (later.pack .int) = false ∧ scheduleRuns (packed.pack .int) = true ∧
    polled packed .int .voltage = true ∧ inService packed.bus .int (.dyn .voltage) = false ∧
    (later.item .int .voltage).valid = false ∧ (packed.item .int .voltage).valid = true ∧ (packed.pack .int).retry = none ∧
    ({ PackSlot.cleared with retry := some 0 } : PackSlot).retry.isSome = true ∧
    inService packed.bus .int (.ident .designCapacity) = false ∧ packed.bus.current = none ∧ packed.bus.queue = [] ∧
    (∀ f, packed.bus.fresh = some f → f.left = []) ∧
    ({ packed.bus with queue := [⟨.int, .dyn .voltage, 0⟩] } : Bus).queue = ⟨.int, .dyn .voltage, 0⟩ :: [] ∧
    ({ packed.bus with fresh := some ⟨.int, [.voltage]⟩ } : Bus).fresh = some ⟨.int, .voltage :: []⟩ ∧
    (reading packed ⟨.int, .dyn .voltage, 1, false, false, false⟩).bus.current =
      some ⟨.int, .dyn .voltage, 1, false, false, false⟩ :=
  ⟨by decide +kernel, by decide +kernel, by decide +kernel, by decide +kernel, rfl, rfl, rfl, rfl, by decide +kernel, rfl, rfl,
    by (intro f h; cases h), rfl, rfl, rfl⟩

/-- SLEEP with VOLTAGE of the internal pack at an age and with a flag; its period is 10,000 ms. -/
def aged (age : Nat) (valid : Bool) : State :=
  let p := activePack 50
  withInt (inState .sleep) { p with items := { p.items with voltage := { fresh 11400 with age := age, valid := valid } } }

/-- R91's example at 30,000 ms: the flag stands, and goes one ms later; set again by a period that grows. -/
theorem witness_ReadsAreScheduled_stale : ((aged 30001 true).item .int .voltage).valid = true ∧
    period (aged 30001 true) .int .voltage ≠ 1000 ∧
    ((after (exec (.itemStale .int .voltage) (aged 30001 true))).item .int .voltage).valid = false ∧
    .itemStale .int .voltage ∈ dueEvents (aged 30001 true) ∧ .itemStale .int .voltage ∉ dueEvents (aged 30000 true) ∧
    ((refreshPeriods (aged 25000 false)).item .int .voltage).valid = true ∧
    ((refreshPeriods (aged 30001 false)).item .int .voltage).valid = false := by decide +kernel

/-- SLEEP, with VOLTAGE of the internal pack waiting since 1,000 ms, at a time, last read at 0. -/
def waiting (now : Nat) (fast : Bool) : State :=
  let s := withInt (inState .sleep) (activePack 50)
  { s with now := now, bus := { s.bus with fast := { int := fast, rear := false },
                                                     queue := [⟨.int, .dyn .voltage, 1000⟩] } }

/-- A period that goes from 1 s to 10 s: the waiting entry leaves before 10,000 ms and is dated 10,000 from then on. -/
theorem witness_ReadsAreScheduled_dated_again :
    (∀ r, (waiting 9999 true).bus.current = some r → r.slot ≠ .int ∨ r.item ≠ .dyn .voltage) ∧
    (∀ f, (waiting 9999 true).bus.fresh = some f → f.slot ≠ .int ∨ DynItem.voltage ∉ f.left) ∧
    ((waiting 9999 true).bus.fast.get .int = true ↔ period (waiting 9999 true) .int .voltage = 10000) ∧
    (∃ e ∈ (waiting 9999 true).bus.queue, e.slot = .int ∧ e.item = .dyn .voltage) ∧
    9999 < ((waiting 9999 true).item .int .voltage).lastEnd + period (waiting 9999 true) .int .voltage ∧
    (∀ e ∈ (refreshPeriods (waiting 9999 true)).bus.queue, e.slot ≠ .int ∨ e.item ≠ .dyn .voltage) ∧
    ((waiting 10000 true).item .int .voltage).lastEnd + period (waiting 10000 true) .int .voltage ≤ 10000 ∧
    ⟨.int, .dyn .voltage, 10000⟩ ∈ (refreshPeriods (waiting 10000 true)).bus.queue ∧
    (∀ e ∈ (waiting 10000 true).bus.queue, e.slot ≠ .int ∨ e.item ≠ .dyn .current) ∧
    scheduleRuns ((waiting 10000 true).pack .int) = true ∧
    (∀ k, (waiting 500 false).bus.fast.get k = true ↔ period (waiting 500 false) k .voltage = 1000) ∧
    (⟨.int, .dyn .voltage, 1000⟩ : QueueEntry) ∈ (waiting 500 false).bus.queue := by
  refine ⟨by (intro r h; cases h), by (intro f h; cases h), by decide +kernel, ⟨_, .head _, rfl, rfl⟩, by decide +kernel,
    by decide +kernel, by decide +kernel, by decide +kernel, ?_, by decide +kernel, by (intro k; cases k <;> decide +kernel),
    .head _⟩
  intro e he
  cases he with
  | head => exact .inr (by decide)
  | tail _ h => cases h

theorem witness_FailedAttemptsAreCounted : (∀ r, packed.bus.current = some r → r.onWires = false) ∧
    onTheWires (reading packed ⟨.int, .dyn .voltage, 1, true, false, false⟩) ⟨.int, .dyn .voltage, 1, true, false, false⟩ ∧
    onTheWires (reading packed ⟨.int, .dyn .voltage, 2, true, false, false⟩) ⟨.int, .dyn .voltage, 2, true, false, false⟩ ∧
    (reading packed ⟨.int, .dyn .voltage, 2, true, true, false⟩).bus.current =
      some ⟨.int, .dyn .voltage, 2, true, true, false⟩ ∧
    failsWith .int (.dyn .voltage) .nackAddress .address .nackAddress ∧
    failsWith .int (.dyn .voltage) (.timeout .command) .command .timeout ∧
    failsWith .int (.ident .serial) (.received [7]) (.data 0) .checkFail ∧
    failsWith .int (.ident .serial) (.received ([8] ++ [1, 2, 3, 4, 5, 6, 7, 8] ++ [0])) .check .checkFail ∧
    (0 : Byte) ≠ crc8 (readHead .int (.dyn .voltage) ++ [0, 0]) ∧ 1 < 2 ∧ 2 ≤ 2 :=
  ⟨by (intro r h; cases h), ⟨rfl, rfl, rfl⟩, ⟨rfl, rfl, rfl⟩, rfl, .inl ⟨rfl, rfl, rfl⟩, .inr (.inr (.inl ⟨rfl, rfl⟩)),
    .inr (.inr (.inr (.inr (.inl ⟨7, [], rfl, rfl, by decide, rfl, rfl⟩)))),
    .inr (.inr (.inr (.inr (.inr ⟨[1, 2, 3, 4, 5, 6, 7, 8], 0, rfl, rfl, rfl, by decide +kernel, rfl, rfl⟩)))),
    by decide +kernel, by decide, by decide⟩

/-- R121: a failed read that changes no state and no flag is no moment of the judgement: the status stays CRITICAL, though
the thresholds as they now stand would give NORMAL. -/
theorem witness_FailedAttemptsAreCounted_unjudged : ∃ s : State,
    onTheWires s ⟨.int, .dyn .voltage, 2, true, false, false⟩ ∧ s.chg.judging = true ∧ s.chg.energy = .critical ∧
    energyOf s = .normal ∧
    let t := after (exec (.packAttemptEnd .nackAddress) s)
    (t.pack .int).state = (s.pack .int).state ∧ (∀ k i, (t.item k i).valid = (s.item k i).valid) ∧ t.chg.energy = .critical :=
  ⟨reading { packed with chg := { packed.chg with judging := true, energy := .critical, discharge := some .int } }
      ⟨.int, .dyn .voltage, 2, true, false, false⟩,
    ⟨rfl, rfl, rfl⟩, rfl, rfl, by decide +kernel, by decide +kernel,
    by (intro k i; cases k <;> cases i <;> decide +kernel), by decide +kernel⟩

theorem witness_DynamicReadsAreStored :
    onTheWires (reading packed ⟨.int, .dyn .rsoc, 0, true, false, false⟩) ⟨.int, .dyn .rsoc, 0, true, false, false⟩ ∧
    (100 : BitVec 16) = (if DynItem.rsoc = .rsoc ∧ 100 < ((0 : Byte) ++ (101 : Byte) : BitVec 16).toNat then 100
      else (0 : Byte) ++ (101 : Byte)) ∧
    ({ activePack 50 with state := .commLost, previous := some .active } : PackSlot).previous = some .active :=
  ⟨⟨rfl, rfl, rfl⟩, by decide, rfl⟩

/-- SLEEP with PACK_CHANGE in the wake set and a COMM_LOST pack that was ACTIVE, its RSOC on the wires at 20 s. -/
def lostInSleep : State :=
  let s := reading (withInt (inState .sleep) { activePack 50 with state := .commLost, previous := some .active })
    ⟨.int, .dyn .rsoc, 0, true, false, false⟩
  { s with now := 20000, pwr := { s.pwr with wakeSet := { s.pwr.wakeSet with packChange := true } } }

/-- R90: the read that returns the pack wakes the platform, and what comes due with the wake leaves out the item just read. -/
theorem witness_DynamicReadsAreStored_once :
    (∀ e ∈ lostInSleep.bus.queue, e.slot ≠ .int ∨ e.item ≠ .dyn .rsoc) ∧
    let t := after (exec (.packAttemptEnd (.received [50, 0, crc8 (readHead .int (.dyn .rsoc) ++ [50, 0])])) lostInSleep)
    t.pwr.state = .resume ∧ (∃ e ∈ t.bus.queue, e.item = .dyn .voltage) ∧
    (∀ e ∈ t.bus.queue, e.slot ≠ .int ∨ e.item ≠ .dyn .rsoc) :=
  ⟨by (intro e h; cases h), by decide +kernel, by decide +kernel, by decide +kernel⟩

theorem witness_IdentificationRunsToAcceptance :
    onTheWires (reading packed ⟨.int, .ident .serial, 0, true, false, false⟩) ⟨.int, .ident .serial, 0, true, false, false⟩ ∧
    goodRead .int (.ident .serial) ([8] ++ [1, 2, 3, 4, 5, 6, 7, 8] ++
      [crc8 (readHead .int (.ident .serial) ++ [8] ++ [1, 2, 3, 4, 5, 6, 7, 8])]) ∧
    goodRead .int (.ident .cycleCount) [12, 0, crc8 (readHead .int (.ident .cycleCount) ++ [12, 0])] ∧
    nextIdentity .serial = some .cycleCount ∧ IdItem.serial ≠ .cycleCount :=
  ⟨⟨rfl, rfl, rfl⟩, .inr ⟨rfl, _, rfl, rfl⟩, .inl ⟨by decide, 12, 0, rfl⟩, rfl, by decide⟩

theorem witness_AlarmsActOnTheirSource :
    (∀ j rest, (packed.pack j).state ≠ .empty →
      ([0x1B, 0, 0, 0] : List Byte) ≠ (match j with | .int => 0x1A | .rear => 0x1B) :: rest) ∧
    (packed.pack .int).state ≠ .empty ∧ (∀ lo hi : Byte, ([0x20] : List Byte) ≠ [lo, hi, crc8 [0x20, 0x1A, lo, hi]]) ∧
    (0x20 : Byte) ≠ 0 := by
  refine ⟨?_, by decide +kernel, by (intro lo hi h; cases h), by decide⟩
  intro j rest hj
  cases j
  · intro h; cases h
  · exact absurd rfl hj

/-! The charge controller, the budget unit and the thermal controller. -/

/-- A calibration record in a phase. -/
def calibration (x : CalPhase) (suspended : Bool) : CalRecord :=
  { CalRecord.blank with phase := x, slot := some .int, suspension := { Suspension.clear with host := suspended } }

/-- RUN with the internal pack ACTIVE, the adapter present, and a calibration record. -/
def calibratingIn (c : CalRecord) : State :=
  let s := withMains packed .w65
  { s with chg := { s.chg with cal := c } }

/-- R164, R182: GET_THERMAL's answer takes 82 bytes; its frame has LEN 56 and carries the four sensors, and a read past it 0xFF. -/
theorem test_thermal_frame :
    let t := after (exec (.getThermal 5) later)
    t.link.slot.payload = thermalPayload later ∧ t.link.slot.payload.length = 82 ∧
    linkRead t 61 = [0xD8, 5, Status.ok.code, 56] ++ allSensors.flatMap (sensorPayload later) ++ [0xFF] := by decide +kernel

theorem witness_RecordsAreReported : later.link.processing = none ∧ (1 : Byte).toNat = Kind.criticalEnergy.number ∧
    (25 : Byte).toNat = Kind.linkError.number ∧ 25 < (26 : Byte).toNat := by decide

theorem witness_ChargeLimitsAreApplied : later.link.processing = none ∧ (later.chg.stop = 100 ∧ later.chg.start = 95) ∧
    ¬ (({ later.chg with stop := 80 } : Charger).stop = 100 ∧ later.chg.start = 95) ∧ 45 < 50 ∧
    charging.chg.selected = some .int ∧ (charging.pack .int).state = .active ∧ charging.chg.switchOver = none ∧
    sessionRuns (charging.chg.packs.get .int).phase ∧ charging.chg.cal.slot ≠ some .int ∧ validRsoc charging .int 50 ∧
    50 ≤ 50 ∧ stopInRange 49 = 50 ∧ stopInRange 101 = 100 ∧ startInRange 50 46 = 45 ∧ startInRange 50 39 = 40 :=
  ⟨rfl, ⟨rfl, rfl⟩, by decide +kernel, by decide, rfl, rfl, rfl, .inr (.inr (.inl rfl)), by decide +kernel, ⟨rfl, _, rfl, rfl⟩,
    by decide, rfl, rfl, rfl, rfl⟩

theorem witness_CalibrationRequestsAreAnswered : packed.link.processing = none ∧ 4 < (5 : Byte).toNat ∧
    1 < (2 : Byte).toNat ∧ (0 : Byte).toNat = slotIndex .int ∧ calibrating (calibratingIn (calibration .rest false)).chg.cal ∧
    calibrating (calibratingIn (calibration .charge false)).chg.cal ∧
    ¬ calibrating (calibratingIn .blank).chg.cal ∧ later.chg.adapter.present = false ∧
    (calibratingIn .blank).chg.adapter.present = true ∧ ((calibratingIn .blank).pack .int).state = .active ∧
    ((calibratingIn .blank).chg.packs.get .int).phase ≠ .fault ∧
    (calibratingIn (calibration .discharge true)).chg.cal.suspension.host = true ∧
    (calibratingIn (calibration .discharge false)).chg.cal.suspension.host = false :=
  ⟨rfl, by decide, by decide, rfl, .inr (.inl rfl), .inr (.inr rfl), by (rintro (h | h | h) <;> cases h), rfl, rfl, rfl,
    by decide +kernel, rfl, rfl⟩

theorem witness_AdapterEventsAreRecorded : (withMains later .w65).chg.adapter.present = true ∧
    later.chg.adapter.present = false ∧ (later.pwr.rails.get .mem).good = false ∧
    (inState .faultOff).pwr.state = .faultOff ∧ noWake running ∧
    (∃ s : State, s.pwr.state = .off ∧ s.store.policy.powerOnAtAdapter = true ∧ s.chg.adapter.present = false ∧
      hardCrossing s) ∧
    (∃ s : State, s.pwr.state = .off ∧ s.store.policy.powerOnAtAdapter = true ∧ s.chg.adapter.present = false ∧
      ¬ hardCrossing s) ∧
    (∃ s : State, s.pwr.state = .sleep ∧ s.pwr.wakeSet.adapterChange = true ∧ (s.pwr.rails.get .io).good = false) ∧
    ({ later.chg with classWait := some 0 } : Charger).classWait.isSome = true ∧
    isClass (withFactory later 0x36 [0, 1, 255, 1]) 0x100 .w45 ∧ isClass (withFactory later 0x36 [0, 1, 255, 1]) 0x1FF .w45 ∧
    isClass later 0x100 .unknown45 ∧
    (∃ s : State, s.chg.adapter.present = true ∧ (s.chg.packs.get .int).phase = .fault) ∧
    (calibratingIn (calibration .discharge false)).chg.adapter.present = true := by
  refine ⟨rfl, rfl, rfl, rfl, by (rintro (h | h) <;> cases h),
    ⟨{ tooHot with store := { tooHot.store with policy := { Policy.builtIn with powerOnAtAdapter := true } } }, rfl, rfl, rfl,
      .soc, rfl⟩,
    ⟨{ pressed .off with store := { later.store with policy := { Policy.builtIn with powerOnAtAdapter := true } } }, rfl, rfl,
      rfl, no_hard_after_reset⟩,
    ⟨withPwr (inState .sleep) fun p => { p with wakeSet := { p.wakeSet with adapterChange := true } }, rfl, rfl, rfl⟩, rfl,
    .inl ⟨?_, rfl⟩, .inl ⟨?_, rfl⟩, ?_,
    ⟨{ withMains later .w65 with chg := { (withMains later .w65).chg with
      packs := ⟨{ ChargeStatus.cleared with phase := .fault }, .cleared⟩ } }, rfl, rfl⟩, rfl⟩
  · unfold inClassBand; decide +kernel
  · unfold inClassBand; decide +kernel
  · refine .inr (.inr (.inr (.inr ⟨?_, rfl⟩)))
    intro i h
    have : i = 0 ∨ i = 1 ∨ i = 2 ∨ i = 3 := by omega
    unfold inClassBand
    rcases this with rfl | rfl | rfl | rfl <;> decide +kernel

/-- A removal while the bypass runs the platform from the internal pack: that pack carries it, although the rear pack is
first in R101's order; and the ADAPTER_CHANGE wakes. -/
theorem witness_AdapterEventsAreRecorded_carried : ∃ s : State, s.chg.adapter.present = true ∧
    s.chg.adapter.bypass = true ∧ s.chg.cal.phase = .discharge ∧ s.chg.cal.slot = some .int ∧ (s.pack .int).state = .active ∧
    (s.pack .int).status.getLsbD 3 = false ∧ (s.pack .rear).state = .active ∧ s.pwr.wakeSet.adapterChange = true ∧
    (after (exec .adapterRemoval s)).chg.discharge = some .int :=
  let s := calibratingIn (calibration .discharge false)
  ⟨{ s with packs := { s.packs with rear := activePack 62 },
            pwr := { s.pwr with wakeSet := { s.pwr.wakeSet with adapterChange := true } },
            chg := { s.chg with adapter := { s.chg.adapter with bypass := true }, supply := .pack .int,
                                discharge := some .int } },
    rfl, rfl, rfl, rfl, rfl, by decide +kernel, rfl, rfl, by decide +kernel⟩

/-- A selected pack in a phase. -/
def sessionIn (x : ChargePhase) : State :=
  { charging with chg := { charging.chg with packs := ⟨{ ChargeStatus.cleared with phase := x }, .cleared⟩ } }

theorem witness_ChargeTimersAct : later.chg.switchOver = none ∧
    (∃ s : State, s.chg.switchOver = some 0 ∧ s.chg.selected = some .int ∧ (s.chg.packs.get .int).phase = .idle) ∧
    endsInFault .sessionTimerExpiry ((sessionIn .constantVoltage).chg.packs.get .int).phase .timer ∧
    endsInFault .prechargeTimeout ((sessionIn .precharge).chg.packs.get .int).phase .prechargeTimeout ∧
    (sessionIn .precharge).chg.selected = some .int ∧
    (∀ k cause, (sessionIn .hold).chg.selected = some k →
      ¬ endsInFault .sessionTimerExpiry ((sessionIn .hold).chg.packs.get k).phase cause) ∧
    later.chg.budgetRetry = none ∧ ({ later.chg with budgetRetry := some 0 } : Charger).budgetRetry.isSome = true ∧
    (calibratingIn (calibration .discharge false)).chg.cal.phase = .discharge ∧
    (calibratingIn (calibration .discharge false)).chg.cal.suspension = unsuspended ∧
    ¬ ((calibratingIn (calibration .discharge true)).chg.cal.phase = .discharge ∧
      (calibratingIn (calibration .discharge true)).chg.cal.suspension = unsuspended) ∧
    (calibratingIn (calibration .rest false)).chg.cal.phase = .rest ∧
    (calibratingIn (calibration .rest false)).chg.cal.suspension = unsuspended ∧
    (calibratingIn (calibration .charge false)).chg.cal.slot = some .int ∧
    later.chg.judging = false ∧ ({ later.chg with judging := true } : Charger).judging = true ∧
    later.chg.adapter.present = false ∧ later.chg.discharge = none ∧ (withMains later .w65).chg.adapter.present = true ∧
    running.pwr.state = .run ∧ running.chg.energy ≠ .criticalHard ∧ combined packed = some 60 ∧ combined later = none ∧
    ({ packed.chg with discharge := some .int } : Charger).discharge ≠ none := by
  refine ⟨rfl, ⟨{ packed with chg := { packed.chg with switchOver := some 0, selected := some .int } }, rfl, rfl, rfl⟩,
    .inl ⟨rfl, rfl, .inr (.inr rfl)⟩, .inr ⟨rfl, rfl, rfl⟩, rfl, ?_, rfl, rfl, rfl, rfl, by decide +kernel, rfl, rfl, rfl, rfl,
    rfl, rfl, rfl, rfl, rfl, by decide +kernel, by decide +kernel, by decide +kernel, by decide +kernel⟩
  intro k cause hk h
  cases hk
  rcases h with ⟨_, _, h | h | h⟩ | ⟨h, _⟩ <;> cases h

/-! The energy status and the session. -/

/-- A platform state on a pack at a combined charge, with the energy status judged before. -/
def onPack (x : PlatformState) (charge : Nat) (before : EnergyLevel) : State :=
  let p := activePack charge
  let s := withInt (inState x) { p with items := { p.items with remainingCapacity := fresh (50 * charge) } }
  { s with chg := { s.chg with judging := true, energy := before, supply := .pack .int, discharge := some .int } }

theorem witness_EnergyStatusIsActedOn :
    (later.chg.adapter.present = false ∧ (∃ k i, (packed.item k i).valid ≠ (later.item k i).valid) ∧
      (withMains later .w65).chg.adapter.present = true ∧ later.chg.judging = false) ∧
    ((onPack .run 13 .normal).chg.judging = true ∧ energyOf (onPack .run 13 .normal) = .normal ∧
      armedNow (onPack .run 13 .normal) = true) ∧
    (energyOf (onPack .run 10 .normal) = .low ∧ armedNow (onPack .run 10 .normal) = true) ∧
    armedNow { onPack .run 10 .normal with chg := { (onPack .run 10 .normal).chg with lowArmed := false } } = false ∧
    (energyOf (onPack .run 4 .low) = .critical ∧ ¬ isCrit EnergyLevel.low ∧ (onPack .run 4 .low).pwr.state = .run ∧
      (onPack .run 4 .low).notice.critWindow = none) ∧
    (energyOf (onPack .run 5 .critical) = .low ∧ isCrit EnergyLevel.critical ∧ ¬ isCrit EnergyLevel.low) ∧
    (energyOf (onPack .sleep 4 .low) = .critical ∧ ((onPack .sleep 4 .low).pwr.rails.get .io).good = false) ∧
    energyOf (onPack .sleepEntry 4 .low) = .critical ∧
    energyOf { onPack .sleep 50 .normal with chg := { (onPack .sleep 50 .normal).chg with discharge := none } } = .criticalHard ∧
    forcible (onPack .sleep 50 .normal).pwr.state ∧ ¬ forcible later.pwr.state := by
  refine ⟨⟨rfl, ⟨.int, .voltage, by decide +kernel⟩, rfl, rfl⟩, ⟨rfl, by decide +kernel, by decide +kernel⟩,
    ⟨by decide +kernel, by decide +kernel⟩, by decide +kernel,
    ⟨by decide +kernel, by (rintro (h | h) <;> cases h), rfl, rfl⟩,
    ⟨by decide +kernel, .inl rfl, by (rintro (h | h) <;> cases h)⟩, ⟨by decide +kernel, rfl⟩, by decide +kernel,
    by decide +kernel, .inr (.inr (.inr (.inl rfl))), ?_⟩
  rintro (h | h | h | h | h) <;> cases h

/-- QUALIFY with its data, at a pack voltage. -/
def qualifying (volts : Nat) : State :=
  let p := activePack 50
  let s := withInt (sessionIn .qualify) { p with items := { p.items with voltage := fresh volts } }
  { s with chg := { s.chg with freshCurrent := true, freshVoltage := true, chargeVoltage := none } }

/-- The decision at 8,999 and 9,000 mV for three cells; a request of 13,200 mV is the charge voltage under 4,400 mV a cell. -/
theorem witness_ChargerFollowsItsSession :
    (∃ k, (settleCharge charging).chg.selected = some k ∧ runsUnheld ((settleCharge charging).chg.packs.get k).phase) ∧
    ((qualifying 9000).chg.packs.get .int).phase = .qualify ∧
    (qualifying 9000).chg.hold = { noAdapter := false, terminate := false, temp := false, data := false, budget := false } ∧
    (qualifying 9000).chg.freshCurrent = true ∧ (qualifying 9000).chg.freshVoltage = true ∧
    ((qualifying 9000).item .int .voltage).valid = true ∧ ((qualifying 9000).item .int .requestedCurrent).valid = true ∧
    ((qualifying 9000).item .int .requestedVoltage).valid = true ∧ chargeVolts (qualifying 9000) .int = some 13200 ∧
    lastValue (qualifying 9000) .int .voltage = some 9000 ∧ lastValue (qualifying 8999) .int .voltage = some 8999 ∧
    ((decideQualify .int (qualifying 8999)).chg.packs.get .int).phase = .precharge ∧
    (charging.chg.selected = some .int ∧ charging.chg.chargeVoltage = some 13200 ∧ charging.chg.freshCurrent = false ∧
      (qualifying 9000).chg.chargeVoltage = none) ∧
    (∃ s : State, s.chg.selected = some .int ∧ s.chg.chargeVoltage = some 13200 ∧ chargeVolts s .int = some 12600) :=
  ⟨⟨.int, by decide +kernel, .inr (.inr (.inl (by decide +kernel)))⟩, rfl, rfl, rfl, rfl, rfl, rfl, rfl, by decide +kernel,
    by decide +kernel, by decide +kernel, by decide +kernel, ⟨rfl, rfl, rfl, rfl⟩,
    withInt charging { activePack 50 with items := { (activePack 50).items with requestedVoltage := fresh 12600 } }, rfl, rfl,
    by decide +kernel⟩

/-- R110: outside RUN a VOLTAGE too old for the 1 s period holds the session, and HOLD with its 10 s period is where the
settling ends (log entry 19). -/
theorem test_stale_voltage_holds :
    let p := activePack 50
    let s := withInt charging { p with items := { p.items with voltage := { fresh 11400 with age := 5000, valid := false } } }
    let t := settleCharge (withPwr s fun p => { p with state := .sleep })
    (t.chg.packs.get .int).phase = .hold ∧ t.chg.hold.data = true ∧ t.chg.iSet = 0 := by decide +kernel

/-- R121: the same with the adapter away; the command that changes a flag is followed by a judgement of the energy status. -/
theorem test_flag_change_is_judged :
    let s := onPack .sleep 50 .low
    let s := { s with bus := { s.bus with fast := { int := false, rear := false } } }
    let t := after (exec (.itemStale .int .voltage) s)
    (t.item .int .voltage).valid = false ∧ t.chg.energy = .normal := by decide +kernel

/-- R103's set-point on section 6.10's inputs: the smaller of 2,944 and 3,000 in steps of 64. -/
theorem test_set_point : setPoint { charging with bud := { charging.bud with iChg := 3000 } } = 2944 ∧
    setPoint { charging with bud := { charging.bud with iChg := 127 } } = 0 ∧
    setPoint { charging with bud := { charging.bud with iChg := 128 } } = 128 := by decide +kernel

theorem witness_BudgetAndFanModesAreSet : later.link.processing = none ∧ 1 < (2 : Byte).toNat ∧ (1 : Byte).toNat ≤ 1 ∧
    3 < (4 : Byte).toNat ∧ (2 : Byte).toNat = FanMode.performance.index ∧ FanMode.performance ≠ .manual ∧
    takenDuty 0 = 0 ∧ takenDuty 1 = 20 ∧ takenDuty 19 = 20 ∧ takenDuty 20 = 20 ∧ takenDuty 101 = 100 ∧
    applies later .a 101 100 ∧ floorHolds measured .a = floorHolds measured .a ∧
    (∃ s : State, floorHolds s .a ∧ applies s .a 1 40) := by
  refine ⟨rfl, by decide, by decide, by decide, rfl, by decide, rfl, rfl, rfl, rfl, rfl,
    ⟨fun ⟨k, hk, h⟩ => ?_, fun _ => rfl⟩, rfl,
    { heated .laptop with thr := { (heated .laptop).thr with sensors := ⟨{ reads 960 with warn := true }, reads 600,
      reads 400, reads 400⟩ } }, ⟨.soc, rfl, .inl rfl⟩, fun _ => rfl, fun h => absurd ⟨.soc, rfl, .inl rfl⟩ h⟩
  cases hk
  rcases h with h | h | h <;> cases h

theorem witness_BudgetEvaluationFollowsItsStages : running.bud.backoff % 250 = 0 ∧ source running = none ∧
    source charging = some .int ∧ ¬ counted charging .int ∧ counted packed .int ∧ Claims.running charging ∧
    ¬ Claims.running later ∧ charging.bud.mode = .chargeFirst ∧ charging.bud.overload < 3 := by
  refine ⟨rfl, rfl, rfl, ?_, .inl rfl, .inl rfl, by (rintro (h | h | h) <;> cases h), rfl, by decide +kernel⟩
  rintro (h | h | ⟨h, _⟩) <;> cases h

theorem usable_measured : usableTable measured := by
  intro i h
  have : ∀ j : Fin 16, tableCode measured (j.val + 1) < tableCode measured j.val := by decide +kernel
  exact this ⟨i, h⟩

/-- The round of R144's example: the hypotheses of its clauses hold in the states before and after it. -/
theorem witness_ConversionRoundJudgesTheSensors :
    exec (.conversionRound 1180 4051 44 45) measured = .next (after (exec (.conversionRound 1180 4051 44 45) measured)) ∧
    usableTable measured ∧ tempAt measured 1180 850 ∧ tempAt measured 4050 (-200) ∧ tempAt measured 45 1400 ∧
    faultOf measured 4051 .openFault ∧ faultOf measured 44 .shortFault ∧
    ¬ faulty (measured.sensor .charger) ∧
    faulty ((after (exec (.conversionRound 1180 4051 44 45) measured)).sensor .charger) ∧
    (measured.sensor .charger).warn = false ∧
    ((after (exec (.conversionRound 1180 4051 44 45) measured)).sensor .charger).warn = true ∧
    (after (exec (.conversionRound 750 750 2800 2800) measured)).thr.sensors.soc.trip = true ∧
    ¬ hardCrossing measured ∧ hardCrossing (after (exec (.conversionRound 750 750 2800 2800) measured)) := by
  refine ⟨rfl, usable_measured, .inr (.inl ⟨10, by decide, by decide +kernel, by decide +kernel, by decide +kernel⟩),
    .inl ⟨by decide +kernel, rfl⟩, .inr (.inr ⟨by decide +kernel, rfl⟩), .inl ⟨.inr (by decide), rfl⟩,
    .inr ⟨usable_measured, by decide, rfl⟩, by (rintro (h | h) <;> cases h), .inl (by decide +kernel), rfl,
    by decide +kernel, by decide +kernel, by (rintro ⟨x, h⟩; cases x <;> cases h), ⟨.soc, by decide +kernel⟩⟩

/-- TRIP set in RUN with its window stopped, cleared again, and a HARD crossing outside RUN. -/
theorem witness_ConversionRoundJudgesTheSensors_windows :
    measured.pwr.state = .run ∧ (after (exec (.conversionRound 940 1500 2800 2800) measured)).pwr.state = .run ∧
    (∀ k, (measured.sensor k).trip = false) ∧ measured.notice.tripWindow = none ∧
    (∃ k, ((after (exec (.conversionRound 940 1500 2800 2800) measured)).sensor k).trip = true) ∧
    (let hot := after (exec (.conversionRound 940 1500 2800 2800) measured)
     (∃ k, (hot.sensor k).trip = true) ∧ (∀ k, ((after (exec (.conversionRound 1500 1500 2800 2800) hot)).sensor k).trip = false)) ∧
    (∃ s : State, forcible s.pwr.state ∧ s.pwr.state = .sleep ∧ ¬ hardCrossing s ∧
      hardCrossing (after (exec (.conversionRound 750 1500 2800 2800) s))) :=
  ⟨rfl, by decide +kernel, by (intro k; cases k <;> rfl), rfl, ⟨.soc, by decide +kernel⟩,
    ⟨⟨.soc, by decide +kernel⟩, by (intro k; cases k <;> decide +kernel)⟩,
    withFactory (inState .sleep) 0x10 thermistors, .inr (.inr (.inr (.inl rfl))), rfl,
    by (rintro ⟨x, h⟩; cases x <;> cases h), ⟨.soc, by decide +kernel⟩⟩

/-- HARD in RUN with every rail up takes DISP first; in SLEEP with no rail up it is OFF at once (R7, R22). -/
theorem witness_ConversionRoundJudgesTheSensors_forced :
    (let s := withFactory (railsUpIn .run) 0x10 thermistors
     let t := after (exec (.conversionRound 750 1500 2800 2800) s)
     forcible s.pwr.state ∧ s.pwr.downWait = none ∧ downRails .powerDown = [] ++ .disp :: [.periph, .core, .io, .mem] ∧
       (s.pwr.rails.get .disp).enabled = true ∧ (s.pwr.rails.get .disp).good = true ∧ t.pwr.state = .powerDown ∧
       t.pwr.downWait = some (.disp, 50) ∧ t.pwr.downCause = .thermalHard) ∧
    (let s := withFactory (inState .sleep) 0x10 thermistors
     forcible s.pwr.state ∧ s.pwr.downWait = none ∧ (∀ x, isPassed s x) ∧
       (after (exec (.conversionRound 750 1500 2800 2800) s)).pwr.state = .off) :=
  ⟨⟨.inr (.inl rfl), rfl, rfl, rfl, rfl, by decide +kernel, by decide +kernel, by decide +kernel⟩,
    .inr (.inr (.inr (.inl rfl))), rfl, by (intro x; cases x <;> exact .inl rfl), by decide +kernel⟩

/-- RUN after the start-up hold. -/
def ventilated : State := { measured with thr := { measured.thr with holdOver := true } }

/-- The three cases of the curve value as one test. -/
theorem curve_of {points : List (Int × Nat)} {t : Int} {d : Nat}
    (h : (∀ a ∈ points.head?, t < a.1 → d = a.2) ∧ (∀ z ∈ points.getLast?, z.1 ≤ t → d = z.2) ∧
      ∀ i, i < points.length → ∀ a ∈ points[i]?, ∀ b ∈ points[i + 1]?, a.1 ≤ t → t < b.1 →
        (d : Int) = a.2 + (((b.2 : Int) - a.2) * (t - a.1)).tdiv (b.1 - a.1)) : CurveGives points t d where
  below a ha := h.1 a (by rw [List.head?_eq_getElem?]; exact ha)
  above z hz := h.2.1 z hz
  between i a b ha hb := h.2.2 i (by have := List.getElem?_eq_some_iff.1 ha; exact this.1) a ha b hb

theorem witness_FansFollowTheirTargets :
    exec (.conversionRound 1180 1180 2800 2800) ventilated = .next (after (exec (.conversionRound 1180 1180 2800 2800) ventilated)) ∧
    ventilated.thr.holdOver = true ∧ measured.thr.holdOver = false ∧
    floorHolds (after (exec (.conversionRound 1180 1180 2800 2800) ventilated)) .b ∧
    ¬ floorHolds (after (exec (.conversionRound 1180 1180 2800 2800) ventilated)) .a ∧
    (after (exec (.conversionRound 750 750 2800 2800) ventilated)).thr.sensors.soc.trip = true ∧
    (after (exec (.conversionRound 1180 1180 2800 2800) ventilated)).thr.sensors.soc.trip = false ∧
    ventilated.thr.fans.a.stalled = false ∧ ventilated.thr.fans.b.stalled = false ∧
    stallSet (after (exec (.tachWindowEnd 0 100) ventilated)) = stallSet ventilated ∧
    (∃ s : State, Claims.running s ∧ stallSet (after (exec (.tachWindowEnd 0 100) s)) ≠ stallSet s) ∧
    rampStep 25 0 = 20 ∧ rampStep 20 0 = 0 ∧
    rampStep 0 3 = 3 ∧ rampStep 0 6 = 20 := by
  refine ⟨rfl, rfl, rfl, ⟨.charger, .inl rfl, .inl (by decide +kernel)⟩, ?_, by decide +kernel, by decide +kernel, rfl, rfl,
    by decide +kernel,
    ⟨{ ventilated with thr := { ventilated.thr with fans := { ventilated.thr.fans with a :=
      { ventilated.thr.fans.a with stallCount := 2 } } } }, .inl rfl, by decide +kernel⟩, by decide, by decide, by decide,
    by decide⟩
  rintro ⟨k, hk, h⟩
  cases hk
  rcases h with h | h | h <;> revert h <;> decide +kernel

/-- R152, R153: at 85.0 °C FAN_A's default curve gives 75 and at 88.0 °C 82, at 89.9 °C 87 and at 92.9 °C 94, below its first
point 0 and at its last 100; a round at 85.0 °C sets an absent curve target, keeps 80 and lowers 90 to 82. -/
theorem witness_FansFollowTheirTargets_curve :
    (let t := after (exec (.conversionRound 1180 1180 2800 2800) ventilated)
     governs t .a 850 ∧ (t.thr.fans.get .a).curve = some 75) ∧ (∀ x, ¬ governs later .b x) ∧
    pointsOf later.store.policy .a = [(500, 0), (600, 30), (750, 50), (850, 75), (950, 100)] ∧
    CurveGives (pointsOf later.store.policy .a) 499 0 ∧ CurveGives (pointsOf later.store.policy .a) 850 75 ∧
    CurveGives (pointsOf later.store.policy .a) 880 82 ∧ CurveGives (pointsOf later.store.policy .a) 950 100 ∧
    (∀ c, c = 80 ∨ c = 90 → let s := { ventilated with thr := { ventilated.thr with fans := { ventilated.thr.fans with
        a := { ventilated.thr.fans.a with curve := some c } } } }
      ((after (exec (.conversionRound 1180 1180 2800 2800) s)).thr.fans.get .a).curve = some (if c = 80 then 80 else 82)) := by
  refine ⟨⟨⟨⟨.soc, rfl, .inl ⟨by (rintro (h | h) <;> revert h <;> decide +kernel), by decide +kernel⟩⟩, ?_⟩, by decide +kernel⟩,
    ?_, by decide +kernel, ?_, ?_, ?_, ?_, by (rintro c (rfl | rfl) <;> decide +kernel)⟩
  · rintro k y hk (⟨_, h⟩ | ⟨h, _⟩ | ⟨h, _⟩)
    · cases hk
      have e : some y = some 850 := h.symm.trans (by decide +kernel)
      cases e; decide
    all_goals (cases hk; exact absurd h (by rintro (h | h) <;> revert h <;> decide +kernel))
  · rintro x ⟨⟨k, _, h⟩, _⟩
    rcases h with ⟨_, h⟩ | ⟨h | h, _⟩ | ⟨h | h, _⟩ <;> cases k <;> cases h
  all_goals exact curve_of (by decide +kernel)

/-- DISCHARGE of the internal pack, which shows FULLY_DISCHARGED since a write of its flags not tested yet. -/
def discharged : State :=
  let s := withMains (withInt running { activePack 50 with status := 0x40 }) .w65
  { s with packs := { s.packs with rear := activePack 60 },
           chg := { s.chg with cal := calibration .discharge false } }

/-- R117: a valid flag of the calibrating pack tests the end of DISCHARGE, the other pack's does not. -/
theorem test_discharge_ends_at_own_flags :
    (after (exec (.itemStale .int .voltage) discharged)).chg.cal.phase = .rest ∧
    (after (exec (.itemStale .rear .voltage) discharged)).chg.cal.phase = .discharge ∧
    ((after (exec (.itemStale .rear .voltage) discharged)).item .rear .voltage).valid = false := by decide +kernel

/-- R160, R161: FAN_A is found STALLED at a window's end in SLEEP, with a floor condition for FAN_B and with none. -/
theorem witness_FansFollowTheirTargets_window :
    let s0 := { ventilated with pwr := { ventilated.pwr with state := .sleep }, thr := { ventilated.thr with fans :=
      { a := { ventilated.thr.fans.a with commanded := 40, target := 40, stallCount := 2 },
        b := { ventilated.thr.fans.b with commanded := 40, target := 40 } } } }
    let s := { s0 with thr := { s0.thr with sensors := { s0.thr.sensors with
      charger := { s0.thr.sensors.charger with warn := true } } } }
    ¬ Claims.running s ∧ floorHolds s .b ∧ stallSet (after (exec (.tachWindowEnd 0 100) s)) ≠ stallSet s ∧
    (after (exec (.tachWindowEnd 0 100) s)).thr.fans.a.stalled = true ∧
    ((after (exec (.tachWindowEnd 0 100) s)).thr.fans.get .b).commanded = 100 ∧
    (∀ f, ¬ floorHolds s0 f) ∧ (after (exec (.tachWindowEnd 0 100) s0)).thr.fans.a.stalled = true ∧
    ((after (exec (.tachWindowEnd 0 100) s0)).thr.fans.get .b).commanded = 40 ∧
    20 ≤ (s0.thr.fans.get .a).commanded ∧ (s0.thr.fans.get .a).windowOk = true := by
  refine ⟨by (rintro (h | h | h) <;> cases h), ⟨.charger, .inl rfl, .inl rfl⟩, by decide +kernel, by decide +kernel,
    by decide +kernel, ?_, by decide +kernel, by decide +kernel, by decide, rfl⟩
  rintro f ⟨k, _, h | h | h⟩ <;> cases k <;> cases h

/-- Rounds with fan A STALLED: in RUN, in SLEEP with no floor condition, and in SLEEP with a warm charger zone. -/
def stalledIn (x : PlatformState) : State :=
  { ventilated with pwr := { ventilated.pwr with state := x }, thr := { ventilated.thr with fans :=
      { ventilated.thr.fans with a := { ventilated.thr.fans.a with stalled := true } } } }

theorem witness_FansFollowTheirTargets_stalled : (stalledIn .run).thr.holdOver = true ∧
    (stalledIn .run).thr.fans.a.stalled = true ∧
    (let t := after (exec (.conversionRound 1500 1500 2800 2800) (stalledIn .run))
     Claims.running t ∧ (∀ k, (t.sensor k).trip = false) ∧ t.thr.fans.b.commanded = 100) ∧
    (let t := after (exec (.conversionRound 1180 1180 2800 2800) (stalledIn .sleep))
     ¬ Claims.running t ∧ (t.sensor .charger).warn = true ∧ t.thr.fans.a.commanded = 100) ∧
    (let t := after (exec (.conversionRound 1500 1500 2800 2800) (stalledIn .sleep))
     ¬ Claims.running t ∧ (∀ k, (t.sensor k).warn = false ∧ (t.sensor k).state = .valid) ∧ t.thr.fans.a.target = 0 ∧
       t.thr.fans.a.commanded = 95) := by
  refine ⟨rfl, rfl, ⟨.inl (by decide +kernel), by (intro k; cases k <;> decide +kernel), by decide +kernel⟩,
    ⟨?_, by decide +kernel, by decide +kernel⟩, ?_, by (intro k; cases k <;> decide +kernel), by decide +kernel,
    by decide +kernel⟩ <;> (rintro (h | h | h) <;> revert h <;> decide +kernel)

theorem settled_later : SelectionSettled later where
  bypass := ⟨by (intro h; cases h), by (rintro ⟨h, -⟩; cases h)⟩
  chosen := ⟨fun _ => rfl, by (intro _ h; cases h),
    fun _ _ => ⟨by (rintro - k ⟨h, -⟩; cases k <;> cases h), by (intro k h; cases h)⟩⟩
  flags := by (intro k i h; cases k <;> cases i <;> cases h)

theorem witness_EveryStepKeepsPowerLaws : PowerLaws later ∧ step later = .next (passMs later) :=
  ⟨{ current := .inl rfl, follows := by decide +kernel, voltage := by (intro v h; cases h),
     selection := settled_later, apart := by (intro k h; cases h),
     suspended := by (intro h; cases h), unheld := by (intro k h; cases h),
     withheld := fun _ => rfl, windows := by (intro f; cases f <;> decide +kernel), limit := by decide +kernel, covered := fun h => absurd h (by decide +kernel) }, rfl⟩

/-! ### The source record, the selected pack and what a pack's value does -/

/-- RUN with the adapter and both packs ACTIVE at an RSOC each, nothing chosen yet. -/
def bothPacks (i r : Nat) : State :=
  let s := withMains (withInt running (activePack i)) .w65
  { s with packs := { s.packs with rear := activePack r } }

theorem carries_none (i r : Nat) : ∀ k, ¬ carries (bothPacks i r) k := by rintro k ⟨h, -⟩; cases h

theorem not_first {s : State} {k : Slot} {w : BitVec 16} (h : (s.item k .rsoc).value = some w) (hw : w.toNat ≤ 5) :
    ¬ inFirstPass s k := by
  rintro ⟨-, ⟨r, ⟨-, v, hv, rfl⟩, hr⟩, -⟩
  rw [h] at hv; cases hv; omega

/-- R101 at its edges: an RSOC of 6 passes where 5 does not; of 5 and 4 the second pass takes 5, of 5 and 5 the first of the order,
REAR; with no pack there is none. -/
theorem witness_ChargerFollowsItsSession_source :
    isDischargePack (bothPacks 6 5) (some .int) ∧ isDischargePack (bothPacks 5 4) (some .int) ∧
    isDischargePack (bothPacks 5 5) (some .rear) ∧ isDischargePack State.reset none ∧
    isSupply (bothPacks 6 5) (some .int) .adapter ∧ isSupply packed (some .int) (.pack .int) ∧
    ¬ ((bothPacks 6 5).chg.supply = .adapter ∧ (bothPacks 6 5).chg.discharge = some .int) ∧ bypassFollows (bothPacks 6 5) ∧
    (settleCharge (bothPacks 6 5)).chg.discharge = some .int ∧ (settleCharge (bothPacks 5 5)).chg.discharge = some .rear := by
  have five (i : Nat) : ¬ inFirstPass (bothPacks i 5) .rear := not_first (w := 5) rfl (by decide)
  refine ⟨⟨fun k h => absurd h (carries_none _ _ k), fun _ => .inl ⟨⟨rfl, ⟨6, ⟨rfl, _, rfl, rfl⟩, by decide⟩, rfl⟩, fun h => absurd h (five 6)⟩⟩,
    ⟨fun k h => absurd h (carries_none _ _ k), fun _ => .inr ⟨?_, ⟨rfl, rfl⟩, fun _ => .inl (by decide +kernel)⟩⟩,
    ⟨fun k h => absurd h (carries_none _ _ k), fun _ => .inr ⟨?_, ⟨rfl, rfl⟩, fun _ => .inr ⟨by decide +kernel, rfl⟩⟩⟩,
    ⟨by (rintro k ⟨h, -⟩; cases h), fun _ => by (rintro k ⟨h, -⟩; cases k <;> cases h)⟩,
    ⟨by decide +kernel, by decide +kernel, by decide +kernel⟩, ⟨by decide +kernel, by decide +kernel, by decide +kernel⟩,
    by decide +kernel, by unfold bypassFollows; decide +kernel, by decide +kernel, by decide +kernel⟩
  · intro j
    cases j
    · exact not_first (w := 5) rfl (by decide)
    · exact not_first (w := 4) rfl (by decide)
  · intro j
    cases j
    · exact not_first (w := 5) rfl (by decide)
    · exact five 5

theorem canBeSelected_94 (i r : Nat) : (i = 94 → canBeSelected (bothPacks i r) .int) ∧ (r = 94 → canBeSelected (bothPacks i r) .rear) := by
  have flags {k : Slot} {p : Nat} (hk : (bothPacks i r).pack k = activePack p) :
      ∀ d, d ∈ [DynItem.voltage, .status, .temperature, .rsoc] → ((bothPacks i r).item k d).valid = true := by
    intro d hd
    unfold State.item; rw [hk]
    simp only [List.mem_cons, List.not_mem_nil, or_false] at hd
    rcases hd with rfl | rfl | rfl | rfl <;> rfl
  constructor
  · rintro rfl
    exact ⟨rfl, (by intro h; cases h), (by intro h; cases h), .inr (.inl ⟨rfl, 94, ⟨rfl, _, rfl, rfl⟩, show 94 < 95 by decide⟩),
      .inr ⟨flags (p := 94) rfl, show (0 : BitVec 8).getLsbD 1 = false by decide, rfl⟩⟩
  · rintro rfl
    exact ⟨rfl, (by intro h; cases h), (by intro h; cases h), .inr (.inl ⟨rfl, 94, ⟨rfl, _, rfl, rfl⟩, show 94 < 95 by decide⟩),
      .inr ⟨flags (p := 94) rfl, show (0 : BitVec 8).getLsbD 1 = false by decide, rfl⟩⟩

theorem not_below_start {s : State} {k : Slot} {w : BitVec 16} (h : (s.item k .rsoc).value = some w) (hw : s.chg.start ≤ w.toNat)
    (hs : s.chg.selected = none) : ¬ canBeSelected s k := by
  rintro ⟨-, -, -, ⟨h1, -⟩ | ⟨-, r, ⟨-, v, hv, rfl⟩, hr⟩ | ⟨-, r, ⟨-, v, hv, rfl⟩, hr, -⟩, -⟩
  · rw [hs] at h1; cases h1
  · rw [h] at hv; cases hv; omega
  · rw [h] at hv; cases hv; omega

/-- R104 with the start threshold at 95: of two packs at 94 INT is chosen, at 95 and 94 REAR, at 95 and 95 none. -/
theorem witness_ChargerFollowsItsSession_selected :
    isChosenPack (bothPacks 94 94) (some .int) ∧ isChosenPack (bothPacks 95 94) (some .rear) ∧ isChosenPack (bothPacks 95 95) none ∧
    (bothPacks 94 94).chg.selected ≠ some .int ∧ (bothPacks 95 95).chg.selected = none ∧
    ((choosePack (bothPacks 94 94)).chg.packs.get .int).phase = .qualify ∧
    (choosePack (bothPacks 95 94)).chg.switchOver = some 50 ∧ (settleCharge (bothPacks 95 94)).chg.selected = some .rear := by
  have at95 (r : Nat) : ¬ canBeSelected (bothPacks 95 r) .int := not_below_start (w := 95) rfl (show 95 ≤ 95 by decide) rfl
  refine ⟨⟨by (intro h; cases h), by (intro _ h; cases h), fun _ _ => ⟨by (intro h; cases h), ?_⟩⟩,
    ⟨by (intro h; cases h), by (intro _ h; cases h), fun _ _ => ⟨by (intro h; cases h), ?_⟩⟩,
    ⟨fun _ => rfl, by (intro _ h; cases h), fun _ _ => ⟨fun _ k => ?_, by (intro k h; cases h)⟩⟩,
    by decide +kernel, rfl, by decide +kernel, by decide +kernel, by decide +kernel⟩
  · rintro k ⟨⟩; exact ⟨(canBeSelected_94 94 94).1 rfl, fun _ => rfl⟩
  · rintro k ⟨⟩; exact ⟨(canBeSelected_94 95 94).2 rfl, fun h => absurd h (at95 94)⟩
  · cases k
    · exact at95 95
    · exact not_below_start (w := 95) rfl (by decide +kernel) rfl

/-- The selected internal pack in a phase with an RSOC and a termination count. -/
def sessionAt (x : ChargePhase) (rsoc count : Nat) : State :=
  let s := withInt (sessionIn x) (activePack rsoc)
  { s with chg := { s.chg with termination := count } }

/-- R108: DONE at an RSOC of 100 and not at 99, at a termination count of 2 and not of 1. -/
theorem witness_ChargerFollowsItsSession_done :
    (sessionAt .hold 100 0).chg.selected = some .int ∧ ((sessionAt .hold 100 0).pack .int).state = .active ∧
    (sessionAt .hold 100 0).chg.switchOver = none ∧ sessionRuns ((sessionAt .hold 100 0).chg.packs.get .int).phase ∧
    apartFromCycle (sessionAt .hold 100 0) ∧ chargeEnds (sessionAt .hold 100 0) .int ∧
    chargeEnds (sessionAt .constantVoltage 99 2) .int ∧ ¬ chargeEnds (sessionAt .constantVoltage 99 1) .int ∧
    ((settleCharge (sessionAt .hold 100 0)).chg.packs.get .int).doneRsoc = some 100 ∧
    (settleCharge (sessionAt .constantVoltage 99 2)).chg.selected = none ∧
    (settleCharge (sessionAt .constantVoltage 99 1)).chg.selected = some .int := by
  refine ⟨rfl, rfl, rfl, .inr (.inr (.inr (.inr rfl))), by (intro k _ h; cases h), .inr (.inl ⟨100, ⟨rfl, _, rfl, rfl⟩, by decide +kernel⟩),
    .inr (.inr ⟨rfl, .inl (by decide)⟩), ?_, by decide +kernel, by decide +kernel, by decide +kernel⟩
  rintro (h | ⟨r, ⟨-, w, hw, rfl⟩, h⟩ | ⟨-, h⟩)
  · cases h
  · cases hw; revert h; decide +kernel
  · revert h; decide +kernel

/-- A flag of the calibrating pack that the settling sets again tests the end of DISCHARGE. -/
theorem witness_ChargerFollowsItsSession_tested : ∃ s : State,
    validFlags (settleOnce s) .int ≠ validFlags s .int ∧ dischargeOver (settleOnce s) .int ∧
    (settleCharge s).chg.cal.phase = .rest :=
  ⟨{ discharged with packs := { discharged.packs with int := withEntry (discharged.pack .int) .voltage { fresh 11400 with valid := false } } },
    by decide +kernel, ⟨by decide +kernel, by decide +kernel, by decide +kernel, .inl (by decide +kernel)⟩, by decide +kernel⟩

/-- The internal pack after a good read of an item on the wires, in a charger's state. -/
def readOf (s : State) (i : DynItem) (lo hi : Byte) : State :=
  after (exec (.packAttemptEnd (.received [lo, hi, crc8 (readHead .int (.dyn i) ++ [lo, hi])]))
    (reading s ⟨.int, .dyn i, 0, true, false, false⟩))

/-- R107, R108 at their edges: VOLTAGE at 8,999 and 9,000 mV in PRECHARGE, at 13,149 and 13,150 mV in CONSTANT_CURRENT, CURRENT at
150 and 149 mA in CONSTANT_VOLTAGE, once and twice. -/
theorem witness_DynamicReadsAreStored_session :
    ((readOf (sessionIn .precharge) .voltage 0x27 0x23).chg.packs.get .int).phase = .precharge ∧
    ((readOf (sessionIn .precharge) .voltage 0x28 0x23).chg.packs.get .int).phase = .constantCurrent ∧
    ((readOf (sessionIn .constantCurrent) .voltage 0x5D 0x33).chg.packs.get .int).phase = .constantCurrent ∧
    ((readOf (sessionIn .constantCurrent) .voltage 0x5E 0x33).chg.packs.get .int).phase = .constantVoltage ∧
    (readOf (sessionAt .constantVoltage 50 1) .current 150 0).chg.termination = 0 ∧
    (readOf (sessionAt .constantVoltage 50 0) .current 149 0).chg.termination = 1 ∧
    ((readOf (sessionAt .constantVoltage 50 1) .current 149 0).chg.packs.get .int).phase = .done := by decide +kernel

theorem settled_charging (r : CurrentRead) : SelectionSettled (reading charging r) where
  bypass := ⟨by (intro h; cases h), by (rintro ⟨h, -⟩; cases h)⟩
  chosen := by
    refine ⟨by (intro h; cases h), by (intro _ h; cases h), fun _ _ => ⟨by (intro h; cases h), ?_⟩⟩
    rintro k ⟨⟩
    exact ⟨⟨rfl, by (intro h; cases h), by (intro h; cases h), .inl ⟨rfl, .inr (.inr (.inl rfl))⟩, .inl rfl⟩,
      by (rintro ⟨h, -⟩; cases h)⟩
  flags := by (intro k i h _; cases k <;> cases i <;> first | rfl | cases h)

/-- R90: a REQUESTED_CURRENT read that ends, well or not, in a settled selection does not come due again at once. -/
theorem witness_DynamicReadsAreStored_settled :
    let r : CurrentRead := ⟨.int, .dyn .requestedCurrent, 2, true, false, false⟩
    let s := reading charging r
    let t := after (exec (.packAttemptEnd (.received [0xB8, 0x0B, crc8 (readHead .int r.item ++ [0xB8, 0x0B])])) s)
    let u := after (exec (.packAttemptEnd .nackAddress) s)
    SelectionSettled s ∧ onTheWires s r ∧ ¬ waits s .int .requestedCurrent ∧ t.chg.selected = s.chg.selected ∧
    u.chg.selected = s.chg.selected ∧ ¬ waits t .int .requestedCurrent ∧ ¬ waits u .int .requestedCurrent :=
  ⟨settled_charging _, ⟨rfl, rfl, rfl⟩, by unfold waits; decide +kernel, by decide +kernel, by decide +kernel,
    by unfold waits; decide +kernel, by unfold waits; decide +kernel⟩

/-- R104, R105: with REAR in a switch-over and INT, where the switch stands, eligible and full, a read's end selects INT, finds it
DONE and selects REAR anew: its request is due again, its marks clear. -/
theorem witness_FailedAttemptsAreCounted_anew :
    let b := bothPacks 94 94
    let s := reading { b with packs := { b.packs with int := { b.packs.int with status := 0x20 } },
                              chg := { b.chg with selected := some .rear, switchOver := some 20, freshCurrent := true } }
      ⟨.rear, .dyn .requestedCurrent, 2, true, false, false⟩
    let t := after (exec (.packAttemptEnd .nackAddress) s)
    ¬ waits s .rear .requestedCurrent ∧ waits t .rear .requestedCurrent ∧ t.chg.selected = some .rear ∧
    t.chg.freshCurrent = false ∧ t.chg.packs.int.phase = .done :=
  ⟨by unfold waits; decide +kernel, by unfold waits; decide +kernel, by decide +kernel, by decide +kernel, by decide +kernel⟩

/-- R112: the edges of the window and of the hysteresis of its two holds. -/
theorem test_bands : [-1, 0, 99, 100, 450, 451, 550, 551].map (bandAfter .normal) =
      [.coldHold, .cold, .cold, .normal, .normal, .warm, .warm, .hotHold] ∧
    [19, 20].map (bandAfter .coldHold) = [.coldHold, .cold] ∧ [531, 530].map (bandAfter .hotHold) = [.hotHold, .warm] := by decide

/-- R117, R119, R120 in DISCHARGE: TEMPERATURE at 50.1 °C suspends, at 48.0 °C ends it; an RSOC of 0 makes REST; TERMINATE_CHARGE
newly set ends the cycle; the fifth failed read in a row ends it too. -/
theorem witness_DynamicReadsAreStored_cycle :
    let s := { bothPacks 50 50 with chg := { (bothPacks 50 50).chg with cal := calibration .discharge false } }
    let hot := { s with chg := { s.chg with cal := { s.chg.cal with suspension := { s.chg.cal.suspension with thermal := true } } } }
    (readOf s .temperature 0xF4 0x01).chg.cal.suspension.thermal = false ∧
    (readOf s .temperature 0xF5 0x01).chg.cal.suspension.thermal = true ∧
    (readOf hot .temperature 0xE1 0x01).chg.cal.suspension.thermal = true ∧
    (readOf hot .temperature 0xE0 0x01).chg.cal.suspension.thermal = false ∧
    (readOf s .rsoc 1 0).chg.cal.phase = .discharge ∧ (readOf s .rsoc 0 0).chg.cal.phase = .rest ∧
    (readOf s .status 2 0).chg.cal.cause = some .packFault ∧ (readOf s .status 8 0).chg.cal.phase = .rest := by decide +kernel

theorem witness_FailedAttemptsAreCounted_lost : ∃ s : State,
    onTheWires s ⟨.int, .dyn .voltage, 2, true, false, false⟩ ∧ (s.pack .int).state ≠ .commLost ∧ s.chg.cal.slot = some .int ∧
    calibrating s.chg.cal ∧
    let t := after (exec (.packAttemptEnd .nackAddress) s)
    (t.pack .int).state = .commLost ∧ t.chg.cal.phase = .ended ∧ t.chg.cal.cause = some .packFault :=
  ⟨reading { packed with packs := { packed.packs with int := { activePack 50 with failures := 4 } },
                         chg := { packed.chg with cal := calibration .rest false } } ⟨.int, .dyn .voltage, 2, true, false, false⟩,
    ⟨rfl, rfl, rfl⟩, by decide +kernel, rfl, .inr (.inl rfl), by decide +kernel, by decide +kernel, by decide +kernel⟩

/-- FULLY_DISCHARGED by alarm ends DISCHARGE; TERMINATE_CHARGE by alarm ends the cycle (R83, R117, R120). -/
theorem witness_AlarmsActOnTheirSource_cycle :
    let s := { bothPacks 50 50 with chg := { (bothPacks 50 50).chg with cal := calibration .discharge false } }
    (s.pack .int).state ≠ .empty ∧
    (after (exec (.alarmMessage [0x1A, 0x40, 0, crc8 [0x20, 0x1A, 0x40, 0]]) s)).chg.cal.phase = .rest ∧
    (after (exec (.alarmMessage [0x1A, 2, 0, crc8 [0x20, 0x1A, 2, 0]]) s)).chg.cal.cause = some .packFault ∧
    (after (exec (.alarmMessage [0x1B, 2, 0, crc8 [0x20, 0x1B, 2, 0]]) s)).chg.cal.phase = .discharge := by decide +kernel

/-- R111: with no heat room an evaluation grants nothing to a session that asks for 3,000 mA, and holds it. -/
theorem witness_BudgetEvaluationFollowsItsStages_unfunded :
    let s := { charging with thr := { charging.thr with h := 0 } }
    let t := after (exec .budgetEvaluation s)
    unfunded s t ∧ s.chg.selected = some .int ∧ (s.pack .int).state = .active ∧ ¬ chargeEnds s .int ∧ ¬ chargeEnds t .int ∧
    ¬ calibrating s.chg.cal ∧ s.chg.adapter.bypass = false ∧ (s.pack (otherSlot .int)).state ≠ .active ∧
    (t.chg.packs.get .int).phase = .hold ∧ t.chg.budgetRetry = some 5000 := by
  intro s t
  refine ⟨⟨by decide +kernel, by decide +kernel, .int, by decide +kernel, .inr (.inl (by decide +kernel))⟩, rfl, rfl, ?_, ?_,
    by (rintro (h | h | h) <;> cases h), rfl, by decide +kernel, by decide +kernel, by decide +kernel⟩
  · rintro (h | ⟨r, ⟨-, w, hw, rfl⟩, h⟩ | ⟨h, -⟩)
    · exact absurd h (by decide +kernel)
    · cases hw; exact absurd h (by decide +kernel)
    · cases h
  · intro h
    have hv : (t.item .int .rsoc).value = some 50 := by decide +kernel
    rcases h with h | ⟨r, ⟨-, w, hw, rfl⟩, h⟩ | ⟨h, -⟩
    · exact absurd h (by decide +kernel)
    · rw [hv] at hw; cases hw; exact absurd h (by decide +kernel)
    · exact absurd h (by decide +kernel)

end Sys2Proof.Tests
end

/-! SUPPORT. The attention floor: when ALERT is driven, what SET_ATTENTION_FLOOR answers, and which resets return the floor to
0; with the proof of the statement about it. -/
section
namespace Sys2Proof.Machine
open Sys2Proof.Claims

/-! ### ALERT (R170) -/

theorem mem_allKinds (k : Kind) : k ∈ allKinds := by cases k <;> decide

/-- An entry takes part in a fetch when it is pending and unmasked. -/
@[simp] theorem fetchable_iff (e : EventEntry) : e.fetchable = true ↔ e.pending = true ∧ e.mask = false := by
  simp [EventEntry.fetchable]

theorem alertCondition_iff (s : State) :
    alertCondition s = true ↔ s.pwr.state = .run ∧
      ∃ k, (s.entry k).pending = true ∧ (s.entry k).mask = false ∧ s.notice.floor < (s.entry k).level := by
  simp [alertCondition, mem_allKinds, and_assoc]

/-- Pins that have been refreshed drive ALERT as the new state calls for. -/
theorem refreshPins_alert_iff (s : State) :
    (refreshPins s).pins.alert = true ↔ (refreshPins s).pwr.state = .run ∧
      ∃ k, ((refreshPins s).entry k).pending = true ∧ ((refreshPins s).entry k).mask = false ∧
        (refreshPins s).notice.floor < ((refreshPins s).entry k).level :=
  alertCondition_iff s

/-! ### SET_ATTENTION_FLOOR (R171) -/

/-- The notice unit with another attention floor. -/
def setFloor (n : Nat) (s : State) : State := { s with notice := { s.notice with floor := n } }

theorem exec_setAttentionFloor_eq (tag floor : Byte) (s : State) :
    exec (.setAttentionFloor tag floor) s = execSetAttentionFloor tag floor s := rfl

/-- The request takes the smaller of 6 and the byte sent, and judges no energy status: it leaves the packs alone. -/
theorem exec_setAttentionFloor (tag floor : Byte) {s : State} (h : s.link.processing = none) :
    exec (.setAttentionFloor tag floor) s = .next (refreshPins (answered (setFloor (min 6 floor.toNat) s) 0x86 tag
      (okOrClamped (decide (6 < floor.toNat))) [BitVec.ofNat 8 (min 6 floor.toNat)])) := by
  rw [exec_setAttentionFloor_eq, execSetAttentionFloor, setting_of_packs h rfl]
  rfl

/-- A floor of at most 6 is taken and echoed as sent. -/
theorem exec_setAttentionFloor_of_le {tag floor : Byte} {s : State} (h : s.link.processing = none)
    (hf : floor.toNat ≤ 6) : exec (.setAttentionFloor tag floor) s =
      .next (refreshPins (answered (setFloor floor.toNat s) 0x86 tag .ok [floor])) := by
  have htaken : min 6 floor.toNat = floor.toNat := Nat.min_eq_right hf
  have hok : okOrClamped (decide (6 < floor.toNat)) = .ok := by simp [okOrClamped, hf]
  rw [exec_setAttentionFloor tag floor h, htaken, hok, BitVec.ofNat_toNat, BitVec.setWidth_eq]

/-- A floor above 6 is taken and echoed as 6, and the answer says so. -/
theorem exec_setAttentionFloor_of_gt {tag floor : Byte} {s : State} (h : s.link.processing = none)
    (hf : 6 < floor.toNat) : exec (.setAttentionFloor tag floor) s =
      .next (refreshPins (answered (setFloor 6 s) 0x86 tag .clamped [6])) := by
  have htaken : min 6 floor.toNat = 6 := Nat.min_eq_left hf.le
  have hclamped : okOrClamped (decide (6 < floor.toNat)) = .clamped := by simp [okOrClamped, hf]
  rw [exec_setAttentionFloor tag floor h, htaken, hclamped]
  rfl

/-! ### The floor through resets and OFF entry (R171, R179, R186) -/

theorem floor_of_core {s t : State} (h : core t = core s) : t.notice.floor = s.notice.floor :=
  congrArg (fun c => c.2.2.2.1) h

@[simp] theorem coldStart_floor (cut : Bool) (s : State) : (coldStart cut s).notice.floor = 0 := rfl

@[simp] theorem noticeWarmReset_floor (s : State) : (noticeWarmReset s).notice.floor = 0 :=
  floor_of_core (core_latchStanding _)

/-- The scanner's reset, which comes after the notice unit's, leaves the floor at 0. -/
@[simp] theorem warmReset_floor (s : State) : (warmReset s).notice.floor = 0 :=
  (floor_of_core (core_keyboardWarmReset _)).trans (noticeWarmReset_floor _)

theorem offEntry_floor (s : State) : (offEntry s).notice.floor = s.notice.floor := floor_of_core (core_offEntry s)

/-- A judgement of the energy status leaves the floor alone. -/
@[simp] theorem judgeFlags_floor (s t : State) : (judgeFlags s t).notice.floor = t.notice.floor :=
  floor_of_core (core_judgeFlags s t)

theorem exec_coldReset_floor {cut : Bool} {s t : State} (h : exec (.coldReset cut) s = .next t) : t.notice.floor = 0 := by
  obtain rfl : refreshPins (coldStart cut s) = t := Host.Outcome.next.inj h
  exact coldStart_floor cut s

theorem exec_resetLink_eq (tag confirmation : Byte) (s : State) :
    exec (.resetLink tag confirmation) s = execResetLink tag confirmation s := rfl

/-- A confirmed RESET_LINK is answered after the warm reset of every block. -/
theorem exec_resetLink_confirmed (tag : Byte) {s : State} (h : s.link.processing = none) :
    exec (.resetLink tag 0xA5) s =
      .next (refreshPins (judgeFlags s (respond 0x02 tag .ok [] (warmReset s)))) := by
  simp [exec_resetLink_eq, execResetLink, setting, request, h]

theorem exec_resetLink_confirmed_floor {tag : Byte} {s t : State} (h : s.link.processing = none)
    (ht : exec (.resetLink tag 0xA5) s = .next t) : t.notice.floor = 0 := by
  obtain rfl := Host.Outcome.next.inj ((exec_resetLink_confirmed tag h).symm.trans ht)
  simp

/-- Settles O11: the request by the two sides of 6, ALERT by the pins refreshed after it, the resets by their last write to the
notice unit, and OFF entry by its frame. -/
theorem setAttentionFloor : Obligations.SetAttentionFloor := by
  refine ⟨fun tag floor s h => ⟨exec_setAttentionFloor_of_le h, exec_setAttentionFloor_of_gt h, fun t ht => ?alert⟩,
    fun _ _ _ => exec_coldReset_floor, fun _ _ _ => exec_resetLink_confirmed_floor, offEntry_floor⟩
  case alert =>
    obtain rfl := Host.Outcome.next.inj ((exec_setAttentionFloor tag floor h).symm.trans ht)
    exact refreshPins_alert_iff _

end Sys2Proof.Machine
end

/-! SUPPORT. The identity report: its bytes, what the load of each policy block leaves of the other's values, and which steps
keep the two validities; with the proof of the statement about it. -/
section
namespace Sys2Proof.Machine
open Sys2Proof.Claims

/-! ### GET_IDENTITY (R199) -/

theorem exec_getIdentity_eq (tag : Byte) (s : State) : exec (.getIdentity tag) s = execGetIdentity tag s := rfl

/-- The identity payload, byte by byte: the part's codes, the serial bytes of FACTORY, the freeze flag and the validities. -/
theorem identityPayload_eq (s : State) : identityPayload s =
    [0x6A, 0x0B, 0x40, 0x06, 0x01] ++ (List.range 16).map s.store.factory.read ++
      [if s.store.frozen then 1 else 0, if s.store.protectedValid then 0 else 1, if s.store.generalValid then 0 else 1] := by
  have hserial : s.store.factory.readBytes 0x00 16 = (List.range 16).map s.store.factory.read := by
    simp only [Memory.readBytes, Nat.zero_add]
  rw [identityPayload, hserial]
  rfl

theorem exec_getIdentity (tag : Byte) {s : State} (h : s.link.processing = none) :
    exec (.getIdentity tag) s = .next (answered s 0x81 tag .ok (identityPayload s)) := by
  rw [exec_getIdentity_eq, execGetIdentity, request, h]
  rfl

/-! ### What a block's fields write (R192, R194) -/

/-- Writing the field commutes with exchanging all GENERAL values: it neither reads nor changes one. -/
def PolicyField.WritesProtected (f : PolicyField) : Prop :=
  ∀ q p v, withProtected q (f.put p v) = f.put (withProtected q p) v

/-- Writing the field commutes with exchanging all PROTECTED values: it neither reads nor changes one. -/
def PolicyField.WritesGeneral (f : PolicyField) : Prop :=
  ∀ q p v, withProtected (f.put q v) p = f.put (withProtected q p) v

/-- The field's default is the value that the built-in policy holds there. -/
def PolicyField.DefaultIsBuiltIn (f : PolicyField) : Prop := f.put Policy.builtIn f.default = Policy.builtIn

theorem writesProtected_of_mem : ∀ f ∈ protectedFields, f.WritesProtected := by
  simp [protectedFields, PolicyField.WritesProtected, withProtected]

/-- The GENERAL block's fields by their kinds of place: the keymap, the three tables and the two curves. -/
theorem forall_generalFields {P : PolicyField → Prop} (keymap : ∀ position, ∀ f ∈ keymapFields position, P f)
    (platform : ∀ f ∈ platformFields, P f) (charge : ∀ f ∈ chargeFields, P f) (thermal : ∀ f ∈ thermalFields, P f)
    (curveA : ∀ f ∈ curveFields .a 0x246 defaultCurveA, P f) (curveB : ∀ f ∈ curveFields .b 0x25F defaultCurveB, P f) :
    ∀ f ∈ generalFields, P f := by
  intro f hf
  simp only [generalFields, List.mem_append, List.mem_flatMap] at hf
  rcases hf with ((((⟨position, -, hf⟩ | hf) | hf) | hf) | hf) | hf
  · exact keymap position f hf
  · exact platform f hf
  · exact charge f hf
  · exact thermal f hf
  · exact curveA f hf
  · exact curveB f hf

theorem writesGeneral_curveFields (fan : Fan) (start : Nat) (dflt : Curve) :
    ∀ f ∈ curveFields fan start dflt, f.WritesGeneral := by
  intro f hf q p v
  simp only [curveFields, List.mem_cons, List.mem_flatMap, List.not_mem_nil, or_false] at hf
  rcases hf with rfl | ⟨i, -, rfl | rfl⟩ <;> rfl

theorem writesGeneral_of_mem : ∀ f ∈ generalFields, f.WritesGeneral := by
  apply forall_generalFields
  case keymap =>
    intro position
    simp [keymapFields, PolicyField.WritesGeneral, putKey, policyKey, withProtected]
  case platform => simp [platformFields, PolicyField.WritesGeneral, withProtected]
  case charge => simp [chargeFields, PolicyField.WritesGeneral, withProtected]
  case thermal => simp [thermalFields, PolicyField.WritesGeneral, withProtected]
  case curveA => exact writesGeneral_curveFields _ _ _
  case curveB => exact writesGeneral_curveFields _ _ _

theorem defaultIsBuiltIn_of_mem_protected : ∀ f ∈ protectedFields, f.DefaultIsBuiltIn := by
  unfold PolicyField.DefaultIsBuiltIn
  decide

/-- The built-in keymap lists no position, and a position that keeps its built-in entry stays unlisted. -/
theorem putKey_builtIn {position : Nat} {change : KeyEntry → KeyEntry}
    (h : change (builtInKey position) = builtInKey position) : putKey position change Policy.builtIn = Policy.builtIn := by
  have hkey : policyKey Policy.builtIn position = builtInKey position := rfl
  have hkeymap : sparseSet builtInKey Policy.builtIn.keymap position (builtInKey position) = [] := if_pos rfl
  rw [putKey, hkey, h, hkeymap]
  rfl

theorem defaultIsBuiltIn_keymapFields (position : Nat) : ∀ f ∈ keymapFields position, f.DefaultIsBuiltIn := by
  simp only [keymapFields, List.forall_mem_cons, PolicyField.DefaultIsBuiltIn]
  exact ⟨putKey_builtIn rfl, putKey_builtIn rfl, putKey_builtIn rfl, List.forall_mem_nil _⟩

theorem defaultIsBuiltIn_of_mem_general : ∀ f ∈ generalFields, f.DefaultIsBuiltIn := by
  apply forall_generalFields defaultIsBuiltIn_keymapFields <;> unfold PolicyField.DefaultIsBuiltIn <;> decide

theorem defaultIsBuiltIn_of_mem {b : Block} : ∀ f ∈ b.fields, f.DefaultIsBuiltIn := by
  cases b
  · exact defaultIsBuiltIn_of_mem_protected
  · exact defaultIsBuiltIn_of_mem_general

/-! ### What loading a block does to the policy (R194) -/

/-- A change of the policy that every field of a block commutes with commutes with the block's load. -/
theorem loadBlock_comm {b : Block} {g : Policy → Policy} (h : ∀ f ∈ b.fields, ∀ p v, g (f.put p v) = f.put (g p) v)
    (image : Memory) (valid : Bool) (p : Policy) : g (loadBlock image b valid p) = loadBlock image b valid (g p) := by
  unfold loadBlock
  generalize b.fields = fields at h
  induction fields generalizing p with
  | nil => rfl
  | cons f fields ih =>
    rw [List.forall_mem_cons] at h
    obtain ⟨hf, hfields⟩ := h
    rw [List.foldl_cons, List.foldl_cons, ih _ hfields, hf]

/-- The load of an INVALID block leaves the built-in policy as it is. -/
theorem loadBlock_invalid_builtIn (image : Memory) (b : Block) :
    loadBlock image b false Policy.builtIn = Policy.builtIn := by
  refine List.foldlRecOn (motive := (· = Policy.builtIn)) b.fields _ rfl ?_
  rintro _ rfl f hf
  exact defaultIsBuiltIn_of_mem f hf

/-- The PROTECTED load leaves the GENERAL values alone. -/
theorem withProtected_loadBlock_prot (image : Memory) (valid : Bool) (q p : Policy) :
    withProtected q (loadBlock image .prot valid p) = loadBlock image .prot valid (withProtected q p) :=
  loadBlock_comm (b := .prot) (fun f hf => writesProtected_of_mem f hf q) image valid p

/-- The GENERAL load leaves the PROTECTED values alone. -/
theorem withProtected_loadBlock_general (image : Memory) (valid : Bool) (q p : Policy) :
    withProtected (loadBlock image .general valid q) p = loadBlock image .general valid (withProtected q p) :=
  loadBlock_comm (b := .general) (g := (withProtected · p)) (fun f hf q => writesGeneral_of_mem f hf q p) image valid q

/-- With the PROTECTED block INVALID its values are the built-in ones: the GENERAL load, over the built-in policy, keeps them. -/
theorem loadPolicy_protected_invalid (image : Memory) (generalValid : Bool) :
    loadPolicy image false generalValid = withProtected (loadPolicy image false generalValid) Policy.builtIn := by
  rw [loadPolicy, loadBlock_invalid_builtIn, withProtected_loadBlock_general]
  rfl

/-- With the GENERAL block INVALID its values are the built-in ones: the PROTECTED load left them so, and the built-in GENERAL
values put over that change nothing. -/
theorem loadPolicy_general_invalid (image : Memory) (protectedValid : Bool) :
    loadPolicy image protectedValid false = withProtected Policy.builtIn (loadPolicy image protectedValid false) := by
  have hprot : loadBlock image .prot protectedValid Policy.builtIn =
      withProtected Policy.builtIn (loadBlock image .prot protectedValid Policy.builtIn) :=
    (withProtected_loadBlock_prot image protectedValid Policy.builtIn Policy.builtIn).symm
  have hload : loadPolicy image protectedValid false = loadBlock image .prot protectedValid Policy.builtIn := by
    rw [loadPolicy, hprot, ← withProtected_loadBlock_general, loadBlock_invalid_builtIn]
  rw [hload]
  exact hprot

/-- The store that a cold reset leaves has been loaded. -/
theorem exec_coldReset_store {cut : Bool} {s t : State} (h : exec (.coldReset cut) s = .next t) :
    t.store = (storedAtPowerUp cut s).loaded := by
  obtain rfl : refreshPins (coldStart cut s) = t := Host.Outcome.next.inj h
  rfl

theorem Store.loaded_policy (c : Store) :
    c.loaded.policy = loadPolicy c.image c.loaded.protectedValid c.loaded.generalValid := by simp only [Store.loaded]

/-- A loaded store holds the built-in values of a block that it calls INVALID. -/
theorem Store.loaded_protected_invalid {c : Store} (h : c.loaded.protectedValid = false) :
    c.loaded.policy = withProtected c.loaded.policy Policy.builtIn := by
  rw [Store.loaded_policy, h]
  exact loadPolicy_protected_invalid _ _

theorem Store.loaded_general_invalid {c : Store} (h : c.loaded.generalValid = false) :
    c.loaded.policy = withProtected Policy.builtIn c.loaded.policy := by
  rw [Store.loaded_policy, h]
  exact loadPolicy_general_invalid _ _

/-! ### What keeps the validities (R199) -/

/-- The two validities that GET_IDENTITY reports. -/
def validity (s : State) : Bool × Bool := (s.store.protectedValid, s.store.generalValid)

theorem validity_of_core {s t : State} (h : core t = core s) : validity t = validity s :=
  congrArg (fun c => (c.2.2.1.protectedValid, c.2.2.1.generalValid)) h

/-- A setting request whose answer keeps the validities. -/
theorem validity_setting {s t : State} {f : State → State} (hf : validity (f s) = validity s)
    (h : setting s f = .next t) : validity t = validity s := by
  unfold setting request at h
  split at h <;> obtain rfl := Host.Outcome.next.inj h
  · rfl
  · exact (validity_of_core (core_judgeFlags s (f s))).trans hf

/-- An event whose effect keeps the validities. -/
theorem validity_event {s t : State} {f : State → State} (hf : validity (f s) = validity s)
    (h : event s f = .next t) : validity t = validity s := by
  obtain rfl := Host.Outcome.next.inj h
  exact (validity_of_core (core_judgeFlags s (f s))).trans hf

theorem validity_warmReset (s : State) : validity (warmReset s) = validity s := by
  have hnotice (u : State) : validity (noticeWarmReset u) = validity u :=
    (validity_of_core (core_latchStanding _)).trans rfl
  rw [warmReset, validity_of_core (core_keyboardWarmReset _), hnotice, validity_of_core (core_resetFanMode _)]
  rfl

theorem exec_resetLink_validity {tag confirmation : Byte} {s t : State}
    (h : exec (.resetLink tag confirmation) s = .next t) : validity t = validity s := by
  rw [exec_resetLink_eq, execResetLink] at h
  refine validity_setting ?_ h
  split
  · exact validity_warmReset s
  · rfl

theorem exec_setEventControl_validity {tag kind level mask : Byte} {s t : State}
    (h : exec (.setEventControl tag kind level mask) s = .next t) : validity t = validity s := by
  simp only [exec, execSetEventControl] at h
  refine validity_setting ?_ h
  split
  · unfold answerControl
    split
    · split <;> rfl
    · rfl
  · rfl

theorem exec_setAttentionFloor_validity {tag floor : Byte} {s t : State}
    (h : exec (.setAttentionFloor tag floor) s = .next t) : validity t = validity s := by
  rw [exec_setAttentionFloor_eq, execSetAttentionFloor] at h
  exact validity_setting (by rfl) h

/-- A WRITE_POLICY that passes its tests only enters processing. -/
theorem validity_answerWrite (tag : Byte) (offset : Nat) (data : List Byte) (s : State) :
    validity (answerWrite tag offset data s) = validity s := by
  unfold answerWrite
  split
  · rfl
  · split
    · rfl
    · split <;> rfl

theorem exec_writePolicy_validity {tag : Byte} {offset : BitVec 16} {data : List Byte} {s t : State}
    (h : exec (.writePolicy tag offset data) s = .next t) : validity t = validity s := by
  simp only [exec, execWritePolicy] at h
  refine validity_setting ?_ h
  split
  · exact validity_answerWrite _ _ _ s
  · rfl

/-- A completed write makes its block's check match, and leaves the validity of the last cold start. -/
theorem validity_completeWrite (tag : Byte) (offset : Nat) (data : List Byte) (s : State) :
    validity (completeWrite tag offset data s) = validity s := by
  have happly (u : State) : validity (applyPolicy u) = validity u := validity_of_core (by simp [applyPolicy])
  have hfinish (kind : Byte) (status : Status) (payload : List Byte) (u : State) :
      validity (finishProcessing kind tag status payload u) = validity u := rfl
  unfold completeWrite
  split
  · rfl
  · rw [hfinish, happly]
    rfl

theorem exec_policyWriteComplete_validity {s t : State} (h : exec .policyWriteComplete s = .next t) :
    validity t = validity s := by
  simp only [exec, execPolicyWriteComplete] at h
  refine validity_event ?_ h
  split
  · exact validity_completeWrite _ _ _ s
  · rfl

theorem exec_freezePolicy_validity {tag confirmation : Byte} {s t : State}
    (h : exec (.freezePolicy tag confirmation) s = .next t) : validity t = validity s := by
  simp only [exec, execFreezePolicy] at h
  refine validity_setting ?_ h
  split
  · rfl
  · split
    · rfl
    · split <;> rfl

theorem exec_freezeComplete_validity {s t : State} (h : exec .freezeComplete s = .next t) :
    validity t = validity s := by
  simp only [exec, execFreezeComplete] at h
  refine validity_event ?_ h
  split <;> rfl

/-- Only a cold reset changes a validity: most commands leave the store but its marker alone, and the seven others keep the
validities one by one. -/
theorem exec_validity {c : Instr} {s t : State} (hc : ∀ cut, c ≠ .coldReset cut) (h : exec c s = .next t) :
    validity t = validity s := by
  by_cases htouch : touchesCore c
  case neg =>
    obtain ⟨u, hu, hcore⟩ := exec_core c s htouch
    obtain rfl := Host.Outcome.next.inj (hu.symm.trans h)
    exact validity_of_core hcore
  case pos =>
    rcases htouch with ⟨cut, rfl⟩ | ⟨tag, confirmation, rfl⟩ | ⟨tag, kind, level, mask, rfl⟩ | ⟨tag, floor, rfl⟩ |
      ⟨tag, offset, data, rfl⟩ | rfl | ⟨tag, confirmation, rfl⟩ | rfl
    · exact absurd rfl (hc cut)
    · exact exec_resetLink_validity h
    · exact exec_setEventControl_validity h
    · exact exec_setAttentionFloor_validity h
    · exact exec_writePolicy_validity h
    · exact exec_policyWriteComplete_validity h
    · exact exec_freezePolicy_validity h
    · exact exec_freezeComplete_validity h

theorem mem_dueWhen {e c : Instr} {due : Bool} : e ∈ dueWhen c due ↔ due = true ∧ e = c := by
  cases due <;> simp [dueWhen]

/-- No timed event is a COLD_RESET, so the part's own time starts none. -/
theorem coldReset_not_mem_dueEvents (cut : Bool) (s : State) : .coldReset cut ∉ dueEvents s := by
  have hlink : .coldReset cut ∉ linkDue s := by
    unfold linkDue; split <;> simp
  simp [dueEvents, hlink, powerDue, postureDue, packDue, pollsDue, stalesDue, chargeDue, budgetDue, mem_dueWhen]

theorem idle_validity {s t : State} (h : idle s = .next t) : validity t = validity s := by
  unfold idle at h
  split at h
  next => obtain rfl := Host.Outcome.next.inj h; rfl
  next c rest hdue =>
    refine exec_validity ?_ h
    rintro cut rfl
    exact coldReset_not_mem_dueEvents cut s (hdue ▸ List.mem_cons_self)

theorem step_validity {s t : State} (h : step s = .next t) (hpending : ∀ cut rest, s.pending ≠ .coldReset cut :: rest) :
    validity t = validity s := by
  unfold step at h
  split at h
  next => exact idle_validity h
  next c rest hqueue =>
    refine (exec_validity ?_ h).trans rfl
    rintro cut rfl
    exact hpending cut rest hqueue

/-- Settles O7: the answer by its bytes, the built-in values by what the two loads of a cold start leave of each other's block,
and the validities by the frame of every other step. -/
theorem getIdentityReports : Obligations.GetIdentityReports := by
  refine ⟨fun tag s h => ?answer, fun cut s t h => ?builtIn, fun s t h hpending => ?validities⟩
  case answer => rw [exec_getIdentity tag h, identityPayload_eq]
  case builtIn =>
    rw [exec_coldReset_store h]
    exact ⟨Store.loaded_protected_invalid, Store.loaded_general_invalid⟩
  case validities => exact Prod.ext_iff.mp (step_validity h hpending)

end Sys2Proof.Machine
end
